-- ==== Sys2Proof/Word.lean ====
section
/-! DEFINITION. The word types of R4FFT (00_scope.md R10): 32-bit words everywhere, bytes of the host's memory picture,
and the 64-bit accumulator. -/

namespace Sys2Proof

/-- A 32-bit word: sample words, twiddle words, operand registers and host bus data (00_scope.md R10). -/
abbrev Word := BitVec 32

/-- A byte of a word, in the little-endian order of 20_memory.md R82. -/
abbrev Byte := BitVec 8

/-- The accumulator's 64 bits (00_scope.md R10, 10_state.md R46). -/
abbrev AccWord := BitVec 64

/-- A complex value of two 32-bit words: a sample `X[i]` (00_scope.md R15) or a twiddle pair `(C, S)` (20_memory.md R92). -/
structure Cplx where
  re : Word
  im : Word
deriving DecidableEq, Repr, Inhabited

end Sys2Proof
end

