-- ==== Sys2Proof/Syntax.lean ====
section
/-! DEFINITION. The command set: one constructor per row of spec/opcode_table.json (30_encoding.md R113). -/

namespace Sys2Proof

/-- The eleven commands. `sh` is the SH field, an unsigned shift amount (30_encoding.md R112); no other command has an
operand field. -/
inductive Instr where
  /-- NOP, 43_dispatcher.md R233. -/
  | nop
  /-- XFORM, 43_dispatcher.md R234. -/
  | xform
  /-- BFLY.FWD, 41_butterfly.md R185. -/
  | bflyFwd
  /-- BFLY.INV, 41_butterfly.md R186. -/
  | bflyInv
  /-- BITREV, 42_bitreversal.md R210. -/
  | bitrev
  /-- MAC.CLR, 40_q31_datapath.md R150. -/
  | macClr
  /-- MAC.MUL, 40_q31_datapath.md R151. -/
  | macMul
  /-- MAC.MLA, 40_q31_datapath.md R152. -/
  | macMla
  /-- MAC.MLS, 40_q31_datapath.md R153. -/
  | macMls
  /-- MAC.RDW sh, 40_q31_datapath.md R154. -/
  | macRdw (sh : Nat)
  /-- MAC.RDS sh, 40_q31_datapath.md R155. -/
  | macRds (sh : Nat)
deriving DecidableEq, Repr

end Sys2Proof
end

