-- ==== Sys2Proof/WellFormed.lean ====
section
/-! DEFINITION. Which commands an encoding can hold. -/

namespace Sys2Proof

/-- A shift amount fits the 6-bit SH field: "an unsigned 6-bit shift amount from 0 to 63" (30_encoding.md R112). -/
def shFits (sh : Nat) : Bool := decide (sh < 64)

/-- A command is well formed when its operand fits its field (30_encoding.md R110, R112). -/
def Instr.wellFormed : Instr → Bool
  | .nop => true
  | .xform => true
  | .bflyFwd => true
  | .bflyInv => true
  | .bitrev => true
  | .macClr => true
  | .macMul => true
  | .macMla => true
  | .macMls => true
  | .macRdw sh => shFits sh
  | .macRds sh => shFits sh

end Sys2Proof
end

