-- ==== Sys2Proof/Decode.lean ====
section
/-! DEFINITION. Command words: the fields, the total decoder, the encoder and the opcode map (30_encoding.md R110 to
R117). -/

namespace Sys2Proof

/-- `v[hi:lo]` read as an unsigned integer (00_scope.md R12). -/
def bitField (v : Word) (hi lo : Nat) : Nat := (v.toNat >>> lo) % 2 ^ (hi + 1 - lo)

/-- OP = w[4:0] (30_encoding.md R111). -/
def opField (w : Word) : Nat := bitField w 4 0

/-- RSV0 = w[7:5] (30_encoding.md R111). -/
def rsv0Field (w : Word) : Nat := bitField w 7 5

/-- SH = w[13:8] (30_encoding.md R111). -/
def shField (w : Word) : Nat := bitField w 13 8

/-- RSV1 = w[31:14] (30_encoding.md R111). -/
def rsv1Field (w : Word) : Nat := bitField w 31 14

/-- Why a word is ILLEGAL (30_encoding.md R115). The hardware reports all three as ILLEGAL_CMD. -/
inductive IllegalWord where
  /-- Nonzero RSV0 or RSV1. -/
  | reservedBits
  /-- An opcode 0x05 to 0x0F or 0x16 to 0x1F. -/
  | reservedOpcode
  /-- A nonzero SH with an opcode other than 0x14 or 0x15. -/
  | shiftNotUsed
deriving DecidableEq, Repr

/-- A command without the SH field: legal only when SH is 0 (30_encoding.md R114). -/
def withoutSh (w : Word) (i : Instr) : Except IllegalWord Instr :=
  if shField w = 0 then .ok i else .error .shiftNotUsed

/-- The total decoder (30_encoding.md R114). -/
def decode (w : Word) : Except IllegalWord Instr :=
  if rsv1Field w ≠ 0 ∨ rsv0Field w ≠ 0 then .error .reservedBits
  else match opField w with
    | 0x00 => withoutSh w .nop
    | 0x01 => withoutSh w .xform
    | 0x02 => withoutSh w .bflyFwd
    | 0x03 => withoutSh w .bflyInv
    | 0x04 => withoutSh w .bitrev
    | 0x10 => withoutSh w .macClr
    | 0x11 => withoutSh w .macMul
    | 0x12 => withoutSh w .macMla
    | 0x13 => withoutSh w .macMls
    | 0x14 => .ok (.macRdw (shField w))
    | 0x15 => .ok (.macRds (shField w))
    | _ => .error .reservedOpcode

/-- The OP field of a command (30_encoding.md R113). -/
def Instr.opcode : Instr → Nat
  | .nop => 0x00
  | .xform => 0x01
  | .bflyFwd => 0x02
  | .bflyInv => 0x03
  | .bitrev => 0x04
  | .macClr => 0x10
  | .macMul => 0x11
  | .macMla => 0x12
  | .macMls => 0x13
  | .macRdw _ => 0x14
  | .macRds _ => 0x15

/-- The SH field of a command, 0 where it has none (30_encoding.md R110). -/
def Instr.shAmount : Instr → Nat
  | .nop => 0
  | .xform => 0
  | .bflyFwd => 0
  | .bflyInv => 0
  | .bitrev => 0
  | .macClr => 0
  | .macMul => 0
  | .macMla => 0
  | .macMls => 0
  | .macRdw sh => sh
  | .macRds sh => sh

/-- The encoder: `OP + (sh << 8)` (30_encoding.md R117). -/
def encode (i : Instr) : Word := BitVec.ofNat 32 (i.opcode + i.shAmount <<< 8)

/-- One row of the opcode map (30_encoding.md R113): a word belongs to the row when `(w and mask) = pattern`. -/
structure OpcodeRow where
  pattern : Word
  mask : Word
deriving DecidableEq, Repr

/-- A word is one of the row's legal words (30_encoding.md R113). -/
def OpcodeRow.admits (r : OpcodeRow) (w : Word) : Bool := (w &&& r.mask) == r.pattern

/-- The opcode map's match and mask columns, in the map's order (30_encoding.md R113). -/
def opcodeRows : List OpcodeRow :=
  [ ⟨0x00000000, 0xFFFFFFFF⟩, ⟨0x00000001, 0xFFFFFFFF⟩, ⟨0x00000002, 0xFFFFFFFF⟩, ⟨0x00000003, 0xFFFFFFFF⟩,
    ⟨0x00000004, 0xFFFFFFFF⟩, ⟨0x00000010, 0xFFFFFFFF⟩, ⟨0x00000011, 0xFFFFFFFF⟩, ⟨0x00000012, 0xFFFFFFFF⟩,
    ⟨0x00000013, 0xFFFFFFFF⟩, ⟨0x00000014, 0xFFFFC0FF⟩, ⟨0x00000015, 0xFFFFC0FF⟩ ]

/-- The command word of an instruction whose bits, as spec/opcode_table.json numbers them, are `w`; every bit from
`nbits` on is 0. A command is one 32-bit datum of a CMD write (30_encoding.md R110). -/
def tableWord (nbits w : Nat) : Word := BitVec.ofNat 32 (w % 2 ^ nbits)

/-- What the decoder reads from that word. -/
def decodeTableWord (nbits w : Nat) : Option Instr :=
  match decode (tableWord nbits w) with
  | .ok i => some i
  | .error _ => none

end Sys2Proof
end

