-- ==== Sys2Proof/Config.lean ====
section
/-! DEFINITION. What an implementation of R4FFT fixes (00_scope.md R6 to R9) and the one free value of the spec, the
contents of RAM that nothing has written (70_reset_and_hazards.md R292). -/

namespace Sys2Proof

/-- The implementation parameters. State holds one (`State.params`) and no step changes it, so that a statement about
every state is a statement about every size and every base address. T_CMD (00_scope.md R9) affects timing only and has
no field. -/
structure Params where
  /-- LOG4_NMAX - 1, so that every value is legal: 1 <= LOG4_NMAX <= 6 (00_scope.md R6). -/
  size : Fin 6
  /-- BASE / 0x20000: BASE is OPEN and a multiple of 0x20000 (00_scope.md R8). -/
  basePage : Nat
deriving DecidableEq, Repr

/-- LOG4_NMAX (00_scope.md R6). -/
def Params.log4Nmax (p : Params) : Nat := p.size.val + 1

/-- NMAX = 4^LOG4_NMAX (00_scope.md R6). -/
def Params.nmax (p : Params) : Nat := 4 ^ p.log4Nmax

/-- The bytes of the register space (20_memory.md R70). -/
def windowBytes : Nat := 0x20000

/-- BASE, the byte address of the register space (00_scope.md R8). -/
def Params.base (p : Params) : Nat := windowBytes * p.basePage

/-- The parameters State.reset has: LOG4_NMAX = 5, the spec's default (00_scope.md R6), and BASE = 0.
DESIGN CHOICE (log entry 3): BASE is OPEN; unsafe for a claim about State.reset that depends on the address. -/
def Params.default : Params := { size := 4, basePage := 0 }

/-- FREE VALUE (log entry 4; 93_implementation_defined.md I8, I9): the byte at a window offset that neither the host nor
a command has written since the last reset, in the given reset period. It has no body: nothing can prove what it is, and
it stays the same until the byte is written or the block is reset. -/
opaque Config.freeRamByte (era offset : Nat) : Byte

end Sys2Proof
end

