-- ==== Sys2Proof/Machine/State.lean ====
section
/-! DEFINITION. The machine's state (10_state.md R30), the reasons a step can stop, and the state right after reset
(70_reset_and_hazards.md R291). -/

namespace Sys2Proof.Machine

/-- CTRL's two implemented bits (10_state.md R35); the other thirty read 0 and have no storage. -/
structure Ctrl where
  inv : Bool
  bitrev : Bool
deriving DecidableEq, Repr

/-- STATUS = (BUSY, DONE, ERR, ERRCODE) (10_state.md R30, R40 to R43); the other bits read 0 and have no storage. -/
structure Status where
  busy : Bool
  done : Bool
  err : Bool
  errcode : BitVec 4
deriving DecidableEq, Repr

/-- IRQEN = (DONE_IE, ERR_IE) (10_state.md R30, R44); the other bits read 0 and have no storage. -/
structure IrqEn where
  doneIe : Bool
  errIe : Bool
deriving DecidableEq, Repr

/-- Bytes at window offsets, in one canonical form: offsets strictly rising, one entry for each byte written since reset.
An unlisted offset reads as `none`, "not written since reset", and no entry can equal that (log entry 4). -/
abbrev Memory := List Host.Cell

/-- The sample RAM (10_state.md R48): the bytes written since reset, and which period of free contents the other bytes
have (`era`, the model's own field: log entry 5). -/
structure Ram where
  era : Nat
  cells : Memory
deriving DecidableEq, Repr

/-- PENDING, when it is not none: the accepted command and the descriptor as it stood at acceptance (10_state.md R52).
`cmd` holds the record's `op` and `sh` (log entry 14). -/
structure Pending where
  cmd : Instr
  n : Word
  m : Word
  f : Word
  inv : Bool
  br : Bool
deriving DecidableEq, Repr

/-- A host bus transaction of `bytes` bytes at byte address `addr` (00_scope.md R14, 20_memory.md R74). Only `bytes = 4`
can succeed, so the data of a write is one word (log entry 17). -/
inductive Txn where
  | read (addr bytes : Nat)
  | write (addr bytes : Nat) (v : Word)
deriving DecidableEq, Repr

/-- What happens next at the block: a host transaction, a step of the sequencer (00_scope.md R11), or a new level of the
reset input (70_reset_and_hazards.md R290; `false` asserts it). -/
inductive Event where
  | host (t : Txn)
  | sequencer
  | rstN (level : Bool)
deriving DecidableEq, Repr

/-- The answer to a host transaction (20_memory.md R85): data, an accepted write, or the error response of
60_exceptions.md R256, which carries no data. -/
inductive Response where
  | data (v : Word)
  | written
  | busError
deriving DecidableEq, Repr

/-- The state of the machine: the tuple of 10_state.md R30, the parameters, the level of rst_n, and the model's own
`inputs` and `response` (log entries 6 and 8). -/
structure State where
  params : Params
  ctrl : Ctrl
  len : Word
  twmod : Word
  brfact : Word
  status : Status
  irqen : IrqEn
  opa : Word
  opb : Word
  acc : AccWord
  res : Word
  ram : Ram
  pending : Option Pending
  rstN : Bool
  inputs : List Event
  response : Option Response
deriving DecidableEq, Repr

/-- Why the machine stops with a fault. -/
inductive Fault where
  /-- Raised by a host transaction at an address outside the window BASE .. BASE + 0x1FFFF, the block's whole address
  space (20_memory.md R70). Safe: no such access reaches the block (log entry 2). -/
  | outsideWindow (addr : Nat)
deriving DecidableEq, Repr

/-- Why a step has no meaning. -/
inductive Refusal where
  /-- The instruction has no meaning in the model yet. No arm of exec answers it. Safe. -/
  | notModelled (mnemonic : String)
  /-- Raised by a host transaction while rst_n is asserted: "Host transactions during reset are outside this spec"
  (70_reset_and_hazards.md R290). Safe (log entry 7). -/
  | hostDuringReset
deriving DecidableEq, Repr

/-- What one step answers. -/
abbrev Outcome := Host.Outcome State Fault Refusal

/-- The state after reset (70_reset_and_hazards.md R291) with given parameters: every register 0, PENDING none, and RAM
with nothing written, in the given period of free contents. -/
def State.resetWith (p : Params) (era : Nat) (rstN : Bool) (inputs : List Event) (response : Option Response) : State where
  params := p
  ctrl := ⟨false, false⟩
  len := 0
  twmod := 0
  brfact := 0
  status := ⟨false, false, false, 0⟩
  irqen := ⟨false, false⟩
  opa := 0
  opb := 0
  acc := 0
  res := 0
  ram := ⟨era, []⟩
  pending := none
  rstN := rstN
  inputs := inputs
  response := response

/-- The machine right after reset (70_reset_and_hazards.md R291): reset released, nothing asked of it yet. -/
def State.reset : State := State.resetWith Params.default 0 true [] none

end Sys2Proof.Machine
end

