-- ==== Sys2Proof/Machine/Ops.lean ====
section
/-! DEFINITION. The named operations: bytes, words and samples of the RAM; the updates of State; taking an error and
clearing it; acceptance and completion of a command. -/

namespace Sys2Proof.Machine

/-! ## Memory -/

/-- The canonical form: offsets strictly rising (log entry 4). -/
abbrev Memory.wf (m : Memory) : Prop := m.Pairwise (fun x y => x.1 < y.1)

/-- The byte listed at an offset, none where nothing has been written since reset. -/
def Memory.lookup : Memory → Nat → Option Byte
  | [], _ => none
  | (a, b) :: m, x => if a = x then some b else Memory.lookup m x

/-- Write one byte, keeping the offsets strictly rising. -/
def Memory.insert : Memory → Nat → Byte → Memory
  | [], x, v => [(x, v)]
  | (a, b) :: m, x, v =>
    if x < a then (x, v) :: (a, b) :: m
    else if x = a then (x, v) :: m
    else (a, b) :: Memory.insert m x v

/-- Byte `b` (0 to 3) of a word holds bits `[8b+7 : 8b]` (20_memory.md R82). -/
def byteOf (v : Word) (b : Nat) : Byte := v.extractLsb' (8 * b) 8

/-- The word whose bytes, lowest offset first, are `b0 b1 b2 b3` (20_memory.md R82). -/
def wordOf (b0 b1 b2 b3 : Byte) : Word := b3 ++ b2 ++ b1 ++ b0

/-- The first offset of the sample RAM window (20_memory.md R71). -/
def ramStart : Nat := 0x08000

/-- The window offset of RAM word `w` (20_memory.md R78). -/
def ramOffset (w : Nat) : Nat := ramStart + 4 * w

/-- What an unlisted byte reads as is said here and nowhere else: the free value of 93_implementation_defined.md I8
(log entry 4). -/
def Ram.readByte (r : Ram) (offset : Nat) : Byte :=
  (Memory.lookup r.cells offset).getD (Config.freeRamByte r.era offset)

/-- Write one byte of RAM. -/
def Ram.writeByte (r : Ram) (offset : Nat) (v : Byte) : Ram :=
  { r with cells := Memory.insert r.cells offset v }

/-- `RAM[w]` (00_scope.md R14, 20_memory.md R78). -/
def Ram.readWord (r : Ram) (w : Nat) : Word :=
  wordOf (r.readByte (ramOffset w)) (r.readByte (ramOffset w + 1)) (r.readByte (ramOffset w + 2))
    (r.readByte (ramOffset w + 3))

/-- `RAM[w] <- v` (20_memory.md R78). -/
def Ram.writeWord (r : Ram) (w : Nat) (v : Word) : Ram :=
  (((r.writeByte (ramOffset w) (byteOf v 0)).writeByte (ramOffset w + 1) (byteOf v 1)).writeByte
    (ramOffset w + 2) (byteOf v 2)).writeByte (ramOffset w + 3) (byteOf v 3)

/-- `X[i] = (RAM[2i], RAM[2i+1])` (00_scope.md R15). -/
def Ram.sample (r : Ram) (i : Nat) : Cplx := ⟨r.readWord (2 * i), r.readWord (2 * i + 1)⟩

/-- `X[i] <- (re, im)` (00_scope.md R15). -/
def Ram.setSample (r : Ram) (i : Nat) (x : Cplx) : Ram :=
  (r.writeWord (2 * i) x.re).writeWord (2 * i + 1) x.im

/-! ## Updates of State -/

/-- Replace STATUS. -/
def State.withStatus (s : State) (st : Status) : State := { s with status := st }

/-- Replace PENDING. -/
def State.withPending (s : State) (p : Option Pending) : State := { s with pending := p }

/-- Replace ACC. -/
def State.withAcc (s : State) (v : AccWord) : State := { s with acc := v }

/-- Replace RES. -/
def State.withRes (s : State) (v : Word) : State := { s with res := v }

/-- Replace the sample RAM. -/
def State.withRam (s : State) (r : Ram) : State := { s with ram := r }

/-- Replace the answer to the last host transaction. -/
def State.withResponse (s : State) (r : Response) : State := { s with response := some r }

/-- Replace what happens next. -/
def State.withInputs (s : State) (es : List Event) : State := { s with inputs := es }

/-! ## Errors -/

/-- The command errors (60_exceptions.md R251). -/
inductive CmdError where
  | illegalCmd
  | badLen
  | badTwmod
  | badBrfact
deriving DecidableEq, Repr

/-- The code STATUS.ERRCODE holds (60_exceptions.md R251). -/
def CmdError.code : CmdError → BitVec 4
  | .illegalCmd => 1
  | .badLen => 2
  | .badTwmod => 3
  | .badBrfact => 4

/-- `raise CmdError(code)`: ERR <- 1 and ERRCODE <- code, nothing else (60_exceptions.md R252). -/
def raiseCmdError (e : CmdError) (s : State) : State :=
  s.withStatus { s.status with err := true, errcode := e.code }

/-- `raise BusError`: the transaction ends with an error response and no state of R4FFT changes (60_exceptions.md R256). -/
def raiseBusError (s : State) : State := s.withResponse .busError

/-- The first line of ACCEPT: DONE, ERR and ERRCODE <- 0 (43_dispatcher.md R230). -/
def clearOutcome (s : State) : State :=
  s.withStatus { s.status with done := false, err := false, errcode := 0 }

/-- A write to STATUS clears the W1C bits written as 1; clearing ERR also clears ERRCODE (10_state.md R41 to R43,
60_exceptions.md R254). -/
def clearWritten (v : Word) (s : State) : State :=
  s.withStatus
    { s.status with
      done := s.status.done && !v.getLsbD 1
      err := s.status.err && !v.getLsbD 2
      errcode := if v.getLsbD 2 then 0 else s.status.errcode }

/-! ## Acceptance and completion -/

/-- LEN is in SUPPORTED = { 4^p : 1 <= p <= LOG4_NMAX } (00_scope.md R7). -/
def supported (p : Params) (len : Word) : Bool :=
  (List.range p.log4Nmax).any fun e => len.toNat == 4 ^ (e + 1)

/-- `uses_len(op)` (43_dispatcher.md R231). -/
def usesLen : Instr → Bool
  | .nop => false
  | .xform => true
  | .bflyFwd => true
  | .bflyInv => true
  | .bitrev => true
  | .macClr => false
  | .macMul => false
  | .macMla => false
  | .macMls => false
  | .macRdw _ => false
  | .macRds _ => false

/-- `runs_bfly(op, CTRL)` (43_dispatcher.md R231). -/
def runsBfly : Instr → Bool
  | .nop => false
  | .xform => true
  | .bflyFwd => true
  | .bflyInv => true
  | .bitrev => false
  | .macClr => false
  | .macMul => false
  | .macMla => false
  | .macMls => false
  | .macRdw _ => false
  | .macRds _ => false

/-- `runs_bitrev(op, CTRL)` (43_dispatcher.md R231). -/
def runsBitrev (i : Instr) (c : Ctrl) : Bool :=
  match i with
  | .nop => false
  | .xform => c.bitrev
  | .bflyFwd => false
  | .bflyInv => false
  | .bitrev => true
  | .macClr => false
  | .macMul => false
  | .macMla => false
  | .macMls => false
  | .macRdw _ => false
  | .macRds _ => false

/-- CHECK, steps 2 to 4: the first failing check of a legal command, in order, with exact products of the unsigned
registers (43_dispatcher.md R231). Step 1, ILLEGAL, is met before a command exists (`presentWord`). -/
def check (i : Instr) (s : State) : Option CmdError :=
  if usesLen i && !supported s.params s.len then some .badLen
  else if runsBfly i && s.twmod.toNat * s.len.toNat != s.params.nmax then some .badTwmod
  else if runsBitrev i s.ctrl && s.brfact.toNat * s.len.toNat != s.params.nmax then some .badBrfact
  else none

/-- The record an accepted command leaves (10_state.md R52, 43_dispatcher.md R230). -/
def pendingOf (i : Instr) (s : State) : Pending :=
  { cmd := i, n := s.len, m := s.twmod, f := s.brfact, inv := s.ctrl.inv, br := s.ctrl.bitrev }

/-- PENDING <- the record, BUSY <- 1 (43_dispatcher.md R230). -/
def begin (i : Instr) (s : State) : State :=
  (s.withStatus { s.status with busy := true }).withPending (some (pendingOf i s))

/-- ACCEPT of a legal command: clear the last outcome, check, then reject or begin (43_dispatcher.md R230). -/
def accept (i : Instr) (s : State) : State :=
  match check i (clearOutcome s) with
  | some e => raiseCmdError e (clearOutcome s)
  | none => begin i (clearOutcome s)

/-- The common completion step: BUSY <- 0, DONE <- 1, PENDING <- none (70_reset_and_hazards.md R303). -/
def complete (s : State) : State :=
  (s.withStatus { s.status with busy := false, done := true }).withPending none

/-- Both phases of a command. With nothing pending it is presented for acceptance (43_dispatcher.md R230); with a record
pending its effect is applied to that record, and the command completes (70_reset_and_hazards.md R303). DESIGN CHOICE:
one meaning holds both (log entry 9). -/
def runCommand (i : Instr) (effect : Pending → State → State) (s : State) : Outcome :=
  match s.pending with
  | none => .next (accept i s)
  | some p => .next (complete (effect p s))

/-! ## Reset -/

/-- rst_n is asserted: the reset state, whatever the block was doing, with RAM contents unspecified anew
(70_reset_and_hazards.md R290 to R293). The parameters and what the environment does next are no state of the block. -/
def assertReset (s : State) : State :=
  State.resetWith s.params (s.ram.era + 1) false s.inputs s.response

/-- rst_n is released: the block is idle and waits for host transactions (70_reset_and_hazards.md R294). -/
def releaseReset (s : State) : State := { s with rstN := true }

/-- A new level of rst_n (70_reset_and_hazards.md R290). -/
def setResetLevel (level : Bool) (s : State) : State :=
  if level then releaseReset s else assertReset s

end Sys2Proof.Machine
end

