-- ==== Sys2Proof/Machine/Flags.lean ====
section
/-! DEFINITION. The words that hold flags, as the host reads and writes them, and the interrupt output (30_encoding.md
R116, 60_exceptions.md R259, R260). -/

namespace Sys2Proof.Machine

/-- CTRL as read: INV is bit 0, BITREV bit 1, the rest 0 (10_state.md R35). -/
def ctrlWord (c : Ctrl) : Word := (0#30 ++ BitVec.ofBool c.bitrev ++ BitVec.ofBool c.inv : BitVec (30 + 1 + 1))

/-- CTRL as written: only bits 1:0 are kept (10_state.md R35). -/
def ctrlOf (v : Word) : Ctrl := ⟨v.getLsbD 0, v.getLsbD 1⟩

/-- STATUS as read: BUSY bit 0, DONE bit 1, ERR bit 2, ERRCODE bits 11:8, the rest 0 (10_state.md R40 to R43). -/
def statusWord (st : Status) : Word :=
  (0#20 ++ st.errcode ++ 0#5 ++ BitVec.ofBool st.err ++ BitVec.ofBool st.done ++ BitVec.ofBool st.busy :
    BitVec (20 + 4 + 5 + 1 + 1 + 1))

/-- IRQEN as read: DONE_IE bit 1, ERR_IE bit 2, the rest 0 (10_state.md R44). -/
def irqenWord (e : IrqEn) : Word :=
  (0#29 ++ BitVec.ofBool e.errIe ++ BitVec.ofBool e.doneIe ++ 0#1 : BitVec (29 + 1 + 1 + 1))

/-- IRQEN as written: only bits 2:1 are kept (10_state.md R44). -/
def irqenOf (v : Word) : IrqEn := ⟨v.getLsbD 1, v.getLsbD 2⟩

/-- The output irq: `(DONE and DONE_IE) or (ERR and ERR_IE)` (10_state.md R51, 60_exceptions.md R260). -/
def State.irq (s : State) : Bool :=
  (s.status.done && s.irqen.doneIe) || (s.status.err && s.irqen.errIe)

end Sys2Proof.Machine
end

