-- ==== Sys2Proof/Machine/Q31.lean ====
section
/-! DEFINITION. The arithmetic primitives of R4FFT: exact integers, narrowed at one stated place (00_scope.md R13,
40_q31_datapath.md R140 to R147). -/

namespace Sys2Proof.Machine

/-- `s32`: a 32-bit pattern read in two's complement (00_scope.md R13). -/
def s32 (w : Word) : Int := w.toInt

/-- `u32`: the 32-bit pattern of an integer mod 2^32 (00_scope.md R13). -/
def u32 (v : Int) : Word := BitVec.ofInt 32 v

/-- `wrap32`: reduction to the signed 32-bit range by wrap-around (00_scope.md R13). -/
def wrap32 (v : Int) : Int := s32 (u32 v)

/-- `s64`: a 64-bit pattern read in two's complement (00_scope.md R13). -/
def s64 (w : AccWord) : Int := w.toInt

/-- `u64`: the 64-bit pattern of an integer mod 2^64 (00_scope.md R13). -/
def u64 (v : Int) : AccWord := BitVec.ofInt 64 v

/-- `wrap64`: reduction to the signed 64-bit range by wrap-around (00_scope.md R13). -/
def wrap64 (v : Int) : Int := s64 (u64 v)

/-- `sra(v, n) = floor(v / 2^n)`: the arithmetic right shift, rounding toward minus infinity (00_scope.md R13,
40_q31_datapath.md R141). -/
def sra (v : Int) (n : Nat) : Int := v >>> n

/-- `sat32(v) = max(-2^31, min(2^31 - 1, v))` (00_scope.md R13, 40_q31_datapath.md R146). -/
def sat32 (v : Int) : Int := max (-2147483648) (min 2147483647 v)

/-- `add32`: the wrapping Q31 sum (40_q31_datapath.md R140). -/
def add32 (a b : Word) : Word := u32 (wrap32 (s32 a + s32 b))

/-- `sub32`: the wrapping Q31 difference (40_q31_datapath.md R140). -/
def sub32 (a b : Word) : Word := u32 (wrap32 (s32 a - s32 b))

/-- The arithmetic right shift of a 32-bit word (40_q31_datapath.md R141). -/
def sra32 (a : Word) (n : Nat) : Word := u32 (sra (s32 a) n)

/-- The exact Q2.62 product of two Q31 words (40_q31_datapath.md R142). -/
def prod (a b : Word) : Int := s32 a * s32 b

/-- `cmac_fwd`: the complex operand times the twiddle pair, both parts exact (40_q31_datapath.md R143). -/
def cmacFwd (x w : Cplx) : Int × Int :=
  (prod x.re w.re - prod x.im w.im, prod x.re w.im + prod x.im w.re)

/-- `cmac_inv`: the complex operand times the conjugate of the twiddle pair, both parts exact (40_q31_datapath.md R143). -/
def cmacInv (x w : Cplx) : Int × Int :=
  (prod x.re w.re + prod x.im w.im, prod x.im w.re - prod x.re w.im)

/-- `reduce(acc, sh) = wrap32(sra(acc, sh))`, as the word that is stored (40_q31_datapath.md R144). -/
def reduce (acc : Int) (sh : Nat) : Word := u32 (wrap32 (sra acc sh))

end Sys2Proof.Machine
end

