-- ==== Sys2Proof/Machine/TwiddleTable.lean ====
section
/-! DEFINITION. The tables behind the twiddle ROM: the listing of 20_memory.md Appendix A (NMAX = 1024), transcribed, and a
quarter wave for NMAX = 4096, computed by 20_memory.md R92 and R93 (log entry 11). Every entry is a natural number; a table
is a list of chunks of 32 entries. -/

namespace Sys2Proof.Machine

/-- 20_memory.md Appendix A, m = 0 to 31: the pairs `(C_m, S_m)`. -/
def appendixA00 : List (Nat × Nat) :=
  [(0x7FFFFFFF, 0x00000000), (0x7FFF6216, 0xFF36F078), (0x7FFD885A, 0xFE6DE2E0), (0x7FFA72D1, 0xFDA4D929),
   (0x7FF62182, 0xFCDBD541), (0x7FF09478, 0xFC12D91A), (0x7FE9CBC0, 0xFB49E6A3), (0x7FE1C76B, 0xFA80FFCB),
   (0x7FD8878E, 0xF9B82684), (0x7FCE0C3E, 0xF8EF5CBB), (0x7FC25596, 0xF826A462), (0x7FB563B3, 0xF75DFF66),
   (0x7FA736B4, 0xF6956FB7), (0x7F97CEBD, 0xF5CCF743), (0x7F872BF3, 0xF50497FB), (0x7F754E80, 0xF43C53CB),
   (0x7F62368F, 0xF3742CA2), (0x7F4DE451, 0xF2AC246E), (0x7F3857F6, 0xF1E43D1C), (0x7F2191B4, 0xF11C789A),
   (0x7F0991C4, 0xF054D8D5), (0x7EF05860, 0xEF8D5FB8), (0x7ED5E5C6, 0xEEC60F31), (0x7EBA3A39, 0xEDFEE92B),
   (0x7E9D55FC, 0xED37EF91), (0x7E7F3957, 0xEC71244F), (0x7E5FE493, 0xEBAA894F), (0x7E3F57FF, 0xEAE4207A),
   (0x7E1D93EA, 0xEA1DEBBB), (0x7DFA98A8, 0xE957ECFB), (0x7DD6668F, 0xE8922622), (0x7DB0FDF8, 0xE7CC9917)]

/-- 20_memory.md Appendix A, m = 32 to 63: the pairs `(C_m, S_m)`. -/
def appendixA01 : List (Nat × Nat) :=
  [(0x7D8A5F40, 0xE70747C4), (0x7D628AC6, 0xE642340D), (0x7D3980EC, 0xE57D5FDA), (0x7D0F4218, 0xE4B8CD11),
   (0x7CE3CEB2, 0xE3F47D96), (0x7CB72724, 0xE330734D), (0x7C894BDE, 0xE26CB01B), (0x7C5A3D50, 0xE1A935E2),
   (0x7C29FBEE, 0xE0E60685), (0x7BF88830, 0xE02323E5), (0x7BC5E290, 0xDF608FE4), (0x7B920B89, 0xDE9E4C60),
   (0x7B5D039E, 0xDDDC5B3B), (0x7B26CB4F, 0xDD1ABE51), (0x7AEF6323, 0xDC597781), (0x7AB6CBA4, 0xDB9888A8),
   (0x7A7D055B, 0xDAD7F3A2), (0x7A4210D8, 0xDA17BA4A), (0x7A05EEAD, 0xD957DE7A), (0x79C89F6E, 0xD898620C),
   (0x798A23B1, 0xD7D946D8), (0x794A7C12, 0xD71A8EB5), (0x7909A92D, 0xD65C3B7B), (0x78C7ABA2, 0xD59E4EFF),
   (0x78848414, 0xD4E0CB15), (0x78403329, 0xD423B191), (0x77FAB989, 0xD3670446), (0x77B417DF, 0xD2AAC504),
   (0x776C4EDB, 0xD1EEF59E), (0x77235F2D, 0xD13397E2), (0x76D94989, 0xD078AD9E), (0x768E0EA6, 0xCFBE389F)]

/-- 20_memory.md Appendix A, m = 64 to 95: the pairs `(C_m, S_m)`. -/
def appendixA02 : List (Nat × Nat) :=
  [(0x7641AF3D, 0xCF043AB3), (0x75F42C0B, 0xCE4AB5A2), (0x75A585CF, 0xCD91AB39), (0x7555BD4C, 0xCCD91D3D),
   (0x7504D345, 0xCC210D79), (0x74B2C884, 0xCB697DB0), (0x745F9DD1, 0xCAB26FA9), (0x740B53FB, 0xC9FBE527),
   (0x73B5EBD1, 0xC945DFEC), (0x735F6626, 0xC89061BA), (0x7307C3D0, 0xC7DB6C50), (0x72AF05A7, 0xC727016D),
   (0x72552C85, 0xC67322CE), (0x71FA3949, 0xC5BFD22E), (0x719E2CD2, 0xC50D1149), (0x71410805, 0xC45AE1D7),
   (0x70E2CBC6, 0xC3A94590), (0x708378FF, 0xC2F83E2A), (0x7023109A, 0xC247CD5A), (0x6FC19385, 0xC197F4D4),
   (0x6F5F02B2, 0xC0E8B648), (0x6EFB5F12, 0xC03A1368), (0x6E96A99D, 0xBF8C0DE3), (0x6E30E34A, 0xBEDEA765),
   (0x6DCA0D14, 0xBE31E19B), (0x6D6227FA, 0xBD85BE30), (0x6CF934FC, 0xBCDA3ECB), (0x6C8F351C, 0xBC2F6513),
   (0x6C242960, 0xBB8532B0), (0x6BB812D1, 0xBADBA943), (0x6B4AF279, 0xBA32CA71), (0x6ADCC964, 0xB98A97D8)]

/-- 20_memory.md Appendix A, m = 96 to 127: the pairs `(C_m, S_m)`. -/
def appendixA03 : List (Nat × Nat) :=
  [(0x6A6D98A4, 0xB8E31319), (0x69FD614A, 0xB83C3DD1), (0x698C246C, 0xB796199B), (0x6919E320, 0xB6F0A812),
   (0x68A69E81, 0xB64BEACD), (0x683257AB, 0xB5A7E362), (0x67BD0FBD, 0xB5049368), (0x6746C7D8, 0xB461FC70),
   (0x66CF8120, 0xB3C0200C), (0x66573CBB, 0xB31EFFCC), (0x65DDFBD3, 0xB27E9D3C), (0x6563BF92, 0xB1DEF9E9),
   (0x64E88926, 0xB140175B), (0x646C59BF, 0xB0A1F71D), (0x63EF3290, 0xB0049AB3), (0x637114CC, 0xAF6803A2),
   (0x62F201AC, 0xAECC336C), (0x6271FA69, 0xAE312B92), (0x61F1003F, 0xAD96ED92), (0x616F146C, 0xACFD7AE8),
   (0x60EC3830, 0xAC64D510), (0x60686CCF, 0xABCCFD83), (0x5FE3B38D, 0xAB35F5B5), (0x5F5E0DB3, 0xAA9FBF1E),
   (0x5ED77C8A, 0xAA0A5B2E), (0x5E50015D, 0xA975CB57), (0x5DC79D7C, 0xA8E21106), (0x5D3E5237, 0xA84F2DAA),
   (0x5CB420E0, 0xA7BD22AC), (0x5C290ACC, 0xA72BF174), (0x5B9D1154, 0xA69B9B68), (0x5B1035CF, 0xA60C21EE)]

/-- 20_memory.md Appendix A, m = 128 to 159: the pairs `(C_m, S_m)`. -/
def appendixA04 : List (Nat × Nat) :=
  [(0x5A82799A, 0xA57D8666), (0x59F3DE12, 0xA4EFCA31), (0x59646498, 0xA462EEAC), (0x58D40E8C, 0xA3D6F534),
   (0x5842DD54, 0xA34BDF20), (0x57B0D256, 0xA2C1ADC9), (0x571DEEFA, 0xA2386284), (0x568A34A9, 0xA1AFFEA3),
   (0x55F5A4D2, 0xA1288376), (0x556040E2, 0xA0A1F24D), (0x54CA0A4B, 0xA01C4C73), (0x5433027D, 0x9F979331),
   (0x539B2AF0, 0x9F13C7D0), (0x53028518, 0x9E90EB94), (0x5269126E, 0x9E0EFFC1), (0x51CED46E, 0x9D8E0597),
   (0x5133CC94, 0x9D0DFE54), (0x5097FC5E, 0x9C8EEB34), (0x4FFB654D, 0x9C10CD70), (0x4F5E08E3, 0x9B93A641),
   (0x4EBFE8A5, 0x9B1776DA), (0x4E210617, 0x9A9C406E), (0x4D8162C4, 0x9A22042D), (0x4CE10034, 0x99A8C345),
   (0x4C3FDFF4, 0x99307EE0), (0x4B9E0390, 0x98B93828), (0x4AFB6C98, 0x9842F043), (0x4A581C9E, 0x97CDA855),
   (0x49B41533, 0x9759617F), (0x490F57EE, 0x96E61CE0), (0x4869E665, 0x9673DB94), (0x47C3C22F, 0x96029EB6)]

/-- 20_memory.md Appendix A, m = 160 to 191: the pairs `(C_m, S_m)`. -/
def appendixA05 : List (Nat × Nat) :=
  [(0x471CECE7, 0x9592675C), (0x46756828, 0x9523369C), (0x45CD358F, 0x94B50D87), (0x452456BD, 0x9447ED2F),
   (0x447ACD50, 0x93DBD6A0), (0x43D09AED, 0x9370CAE4), (0x4325C135, 0x9306CB04), (0x427A41D0, 0x929DD806),
   (0x41CE1E65, 0x9235F2EC), (0x4121589B, 0x91CF1CB6), (0x4073F21D, 0x91695663), (0x3FC5EC98, 0x9104A0EE),
   (0x3F1749B8, 0x90A0FD4E), (0x3E680B2C, 0x903E6C7B), (0x3DB832A6, 0x8FDCEF66), (0x3D07C1D6, 0x8F7C8701),
   (0x3C56BA70, 0x8F1D343A), (0x3BA51E29, 0x8EBEF7FB), (0x3AF2EEB7, 0x8E61D32E), (0x3A402DD2, 0x8E05C6B7),
   (0x398CDD32, 0x8DAAD37B), (0x38D8FE93, 0x8D50FA59), (0x382493B0, 0x8CF83C30), (0x376F9E46, 0x8CA099DA),
   (0x36BA2014, 0x8C4A142F), (0x36041AD9, 0x8BF4AC05), (0x354D9057, 0x8BA0622F), (0x34968250, 0x8B4D377C),
   (0x33DEF287, 0x8AFB2CBB), (0x3326E2C3, 0x8AAA42B4), (0x326E54C7, 0x8A5A7A31), (0x31B54A5E, 0x8A0BD3F5)]

/-- 20_memory.md Appendix A, m = 192 to 223: the pairs `(C_m, S_m)`. -/
def appendixA06 : List (Nat × Nat) :=
  [(0x30FBC54D, 0x89BE50C3), (0x3041C761, 0x8971F15A), (0x2F875262, 0x8926B677), (0x2ECC681E, 0x88DCA0D3),
   (0x2E110A62, 0x8893B125), (0x2D553AFC, 0x884BE821), (0x2C98FBBA, 0x88054677), (0x2BDC4E6F, 0x87BFCCD7),
   (0x2B1F34EB, 0x877B7BEC), (0x2A61B101, 0x8738545E), (0x29A3C485, 0x86F656D3), (0x28E5714B, 0x86B583EE),
   (0x2826B928, 0x8675DC4F), (0x27679DF4, 0x86376092), (0x26A82186, 0x85FA1153), (0x25E845B6, 0x85BDEF28),
   (0x25280C5E, 0x8582FAA5), (0x24677758, 0x8549345C), (0x23A6887F, 0x85109CDD), (0x22E541AF, 0x84D934B1),
   (0x2223A4C5, 0x84A2FC62), (0x2161B3A0, 0x846DF477), (0x209F701C, 0x843A1D70), (0x1FDCDC1B, 0x840777D0),
   (0x1F19F97B, 0x83D60412), (0x1E56CA1E, 0x83A5C2B0), (0x1D934FE5, 0x8376B422), (0x1CCF8CB3, 0x8348D8DC),
   (0x1C0B826A, 0x831C314E), (0x1B4732EF, 0x82F0BDE8), (0x1A82A026, 0x82C67F14), (0x19BDCBF3, 0x829D753A)]

/-- 20_memory.md Appendix A, m = 224 to 255: the pairs `(C_m, S_m)`. -/
def appendixA07 : List (Nat × Nat) :=
  [(0x18F8B83C, 0x8275A0C0), (0x183366E9, 0x824F0208), (0x176DD9DE, 0x82299971), (0x16A81305, 0x82056758),
   (0x15E21445, 0x81E26C16), (0x151BDF86, 0x81C0A801), (0x145576B1, 0x81A01B6D), (0x138EDBB1, 0x8180C6A9),
   (0x12C8106F, 0x8162AA04), (0x120116D5, 0x8145C5C7), (0x1139F0CF, 0x812A1A3A), (0x1072A048, 0x810FA7A0),
   (0x0FAB272B, 0x80F66E3C), (0x0EE38766, 0x80DE6E4C), (0x0E1BC2E4, 0x80C7A80A), (0x0D53DB92, 0x80B21BAF),
   (0x0C8BD35E, 0x809DC971), (0x0BC3AC35, 0x808AB180), (0x0AFB6805, 0x8078D40D), (0x0A3308BD, 0x80683143),
   (0x096A9049, 0x8058C94C), (0x08A2009A, 0x804A9C4D), (0x07D95B9E, 0x803DAA6A), (0x0710A345, 0x8031F3C2),
   (0x0647D97C, 0x80277872), (0x057F0035, 0x801E3895), (0x04B6195D, 0x80163440), (0x03ED26E6, 0x800F6B88),
   (0x03242ABF, 0x8009DE7E), (0x025B26D7, 0x80058D2F), (0x01921D20, 0x800277A6), (0x00C90F88, 0x80009DEA)]

/-- 20_memory.md Appendix A, m = 256 to 287: the pairs `(C_m, S_m)`. -/
def appendixA08 : List (Nat × Nat) :=
  [(0x00000000, 0x80000000), (0xFF36F078, 0x80009DEA), (0xFE6DE2E0, 0x800277A6), (0xFDA4D929, 0x80058D2F),
   (0xFCDBD541, 0x8009DE7E), (0xFC12D91A, 0x800F6B88), (0xFB49E6A3, 0x80163440), (0xFA80FFCB, 0x801E3895),
   (0xF9B82684, 0x80277872), (0xF8EF5CBB, 0x8031F3C2), (0xF826A462, 0x803DAA6A), (0xF75DFF66, 0x804A9C4D),
   (0xF6956FB7, 0x8058C94C), (0xF5CCF743, 0x80683143), (0xF50497FB, 0x8078D40D), (0xF43C53CB, 0x808AB180),
   (0xF3742CA2, 0x809DC971), (0xF2AC246E, 0x80B21BAF), (0xF1E43D1C, 0x80C7A80A), (0xF11C789A, 0x80DE6E4C),
   (0xF054D8D5, 0x80F66E3C), (0xEF8D5FB8, 0x810FA7A0), (0xEEC60F31, 0x812A1A3A), (0xEDFEE92B, 0x8145C5C7),
   (0xED37EF91, 0x8162AA04), (0xEC71244F, 0x8180C6A9), (0xEBAA894F, 0x81A01B6D), (0xEAE4207A, 0x81C0A801),
   (0xEA1DEBBB, 0x81E26C16), (0xE957ECFB, 0x82056758), (0xE8922622, 0x82299971), (0xE7CC9917, 0x824F0208)]

/-- 20_memory.md Appendix A, m = 288 to 319: the pairs `(C_m, S_m)`. -/
def appendixA09 : List (Nat × Nat) :=
  [(0xE70747C4, 0x8275A0C0), (0xE642340D, 0x829D753A), (0xE57D5FDA, 0x82C67F14), (0xE4B8CD11, 0x82F0BDE8),
   (0xE3F47D96, 0x831C314E), (0xE330734D, 0x8348D8DC), (0xE26CB01B, 0x8376B422), (0xE1A935E2, 0x83A5C2B0),
   (0xE0E60685, 0x83D60412), (0xE02323E5, 0x840777D0), (0xDF608FE4, 0x843A1D70), (0xDE9E4C60, 0x846DF477),
   (0xDDDC5B3B, 0x84A2FC62), (0xDD1ABE51, 0x84D934B1), (0xDC597781, 0x85109CDD), (0xDB9888A8, 0x8549345C),
   (0xDAD7F3A2, 0x8582FAA5), (0xDA17BA4A, 0x85BDEF28), (0xD957DE7A, 0x85FA1153), (0xD898620C, 0x86376092),
   (0xD7D946D8, 0x8675DC4F), (0xD71A8EB5, 0x86B583EE), (0xD65C3B7B, 0x86F656D3), (0xD59E4EFF, 0x8738545E),
   (0xD4E0CB15, 0x877B7BEC), (0xD423B191, 0x87BFCCD7), (0xD3670446, 0x88054677), (0xD2AAC504, 0x884BE821),
   (0xD1EEF59E, 0x8893B125), (0xD13397E2, 0x88DCA0D3), (0xD078AD9E, 0x8926B677), (0xCFBE389F, 0x8971F15A)]

/-- 20_memory.md Appendix A, m = 320 to 351: the pairs `(C_m, S_m)`. -/
def appendixA10 : List (Nat × Nat) :=
  [(0xCF043AB3, 0x89BE50C3), (0xCE4AB5A2, 0x8A0BD3F5), (0xCD91AB39, 0x8A5A7A31), (0xCCD91D3D, 0x8AAA42B4),
   (0xCC210D79, 0x8AFB2CBB), (0xCB697DB0, 0x8B4D377C), (0xCAB26FA9, 0x8BA0622F), (0xC9FBE527, 0x8BF4AC05),
   (0xC945DFEC, 0x8C4A142F), (0xC89061BA, 0x8CA099DA), (0xC7DB6C50, 0x8CF83C30), (0xC727016D, 0x8D50FA59),
   (0xC67322CE, 0x8DAAD37B), (0xC5BFD22E, 0x8E05C6B7), (0xC50D1149, 0x8E61D32E), (0xC45AE1D7, 0x8EBEF7FB),
   (0xC3A94590, 0x8F1D343A), (0xC2F83E2A, 0x8F7C8701), (0xC247CD5A, 0x8FDCEF66), (0xC197F4D4, 0x903E6C7B),
   (0xC0E8B648, 0x90A0FD4E), (0xC03A1368, 0x9104A0EE), (0xBF8C0DE3, 0x91695663), (0xBEDEA765, 0x91CF1CB6),
   (0xBE31E19B, 0x9235F2EC), (0xBD85BE30, 0x929DD806), (0xBCDA3ECB, 0x9306CB04), (0xBC2F6513, 0x9370CAE4),
   (0xBB8532B0, 0x93DBD6A0), (0xBADBA943, 0x9447ED2F), (0xBA32CA71, 0x94B50D87), (0xB98A97D8, 0x9523369C)]

/-- 20_memory.md Appendix A, m = 352 to 383: the pairs `(C_m, S_m)`. -/
def appendixA11 : List (Nat × Nat) :=
  [(0xB8E31319, 0x9592675C), (0xB83C3DD1, 0x96029EB6), (0xB796199B, 0x9673DB94), (0xB6F0A812, 0x96E61CE0),
   (0xB64BEACD, 0x9759617F), (0xB5A7E362, 0x97CDA855), (0xB5049368, 0x9842F043), (0xB461FC70, 0x98B93828),
   (0xB3C0200C, 0x99307EE0), (0xB31EFFCC, 0x99A8C345), (0xB27E9D3C, 0x9A22042D), (0xB1DEF9E9, 0x9A9C406E),
   (0xB140175B, 0x9B1776DA), (0xB0A1F71D, 0x9B93A641), (0xB0049AB3, 0x9C10CD70), (0xAF6803A2, 0x9C8EEB34),
   (0xAECC336C, 0x9D0DFE54), (0xAE312B92, 0x9D8E0597), (0xAD96ED92, 0x9E0EFFC1), (0xACFD7AE8, 0x9E90EB94),
   (0xAC64D510, 0x9F13C7D0), (0xABCCFD83, 0x9F979331), (0xAB35F5B5, 0xA01C4C73), (0xAA9FBF1E, 0xA0A1F24D),
   (0xAA0A5B2E, 0xA1288376), (0xA975CB57, 0xA1AFFEA3), (0xA8E21106, 0xA2386284), (0xA84F2DAA, 0xA2C1ADC9),
   (0xA7BD22AC, 0xA34BDF20), (0xA72BF174, 0xA3D6F534), (0xA69B9B68, 0xA462EEAC), (0xA60C21EE, 0xA4EFCA31)]

/-- 20_memory.md Appendix A, m = 384 to 415: the pairs `(C_m, S_m)`. -/
def appendixA12 : List (Nat × Nat) :=
  [(0xA57D8666, 0xA57D8666), (0xA4EFCA31, 0xA60C21EE), (0xA462EEAC, 0xA69B9B68), (0xA3D6F534, 0xA72BF174),
   (0xA34BDF20, 0xA7BD22AC), (0xA2C1ADC9, 0xA84F2DAA), (0xA2386284, 0xA8E21106), (0xA1AFFEA3, 0xA975CB57),
   (0xA1288376, 0xAA0A5B2E), (0xA0A1F24D, 0xAA9FBF1E), (0xA01C4C73, 0xAB35F5B5), (0x9F979331, 0xABCCFD83),
   (0x9F13C7D0, 0xAC64D510), (0x9E90EB94, 0xACFD7AE8), (0x9E0EFFC1, 0xAD96ED92), (0x9D8E0597, 0xAE312B92),
   (0x9D0DFE54, 0xAECC336C), (0x9C8EEB34, 0xAF6803A2), (0x9C10CD70, 0xB0049AB3), (0x9B93A641, 0xB0A1F71D),
   (0x9B1776DA, 0xB140175B), (0x9A9C406E, 0xB1DEF9E9), (0x9A22042D, 0xB27E9D3C), (0x99A8C345, 0xB31EFFCC),
   (0x99307EE0, 0xB3C0200C), (0x98B93828, 0xB461FC70), (0x9842F043, 0xB5049368), (0x97CDA855, 0xB5A7E362),
   (0x9759617F, 0xB64BEACD), (0x96E61CE0, 0xB6F0A812), (0x9673DB94, 0xB796199B), (0x96029EB6, 0xB83C3DD1)]

/-- 20_memory.md Appendix A, m = 416 to 447: the pairs `(C_m, S_m)`. -/
def appendixA13 : List (Nat × Nat) :=
  [(0x9592675C, 0xB8E31319), (0x9523369C, 0xB98A97D8), (0x94B50D87, 0xBA32CA71), (0x9447ED2F, 0xBADBA943),
   (0x93DBD6A0, 0xBB8532B0), (0x9370CAE4, 0xBC2F6513), (0x9306CB04, 0xBCDA3ECB), (0x929DD806, 0xBD85BE30),
   (0x9235F2EC, 0xBE31E19B), (0x91CF1CB6, 0xBEDEA765), (0x91695663, 0xBF8C0DE3), (0x9104A0EE, 0xC03A1368),
   (0x90A0FD4E, 0xC0E8B648), (0x903E6C7B, 0xC197F4D4), (0x8FDCEF66, 0xC247CD5A), (0x8F7C8701, 0xC2F83E2A),
   (0x8F1D343A, 0xC3A94590), (0x8EBEF7FB, 0xC45AE1D7), (0x8E61D32E, 0xC50D1149), (0x8E05C6B7, 0xC5BFD22E),
   (0x8DAAD37B, 0xC67322CE), (0x8D50FA59, 0xC727016D), (0x8CF83C30, 0xC7DB6C50), (0x8CA099DA, 0xC89061BA),
   (0x8C4A142F, 0xC945DFEC), (0x8BF4AC05, 0xC9FBE527), (0x8BA0622F, 0xCAB26FA9), (0x8B4D377C, 0xCB697DB0),
   (0x8AFB2CBB, 0xCC210D79), (0x8AAA42B4, 0xCCD91D3D), (0x8A5A7A31, 0xCD91AB39), (0x8A0BD3F5, 0xCE4AB5A2)]

/-- 20_memory.md Appendix A, m = 448 to 479: the pairs `(C_m, S_m)`. -/
def appendixA14 : List (Nat × Nat) :=
  [(0x89BE50C3, 0xCF043AB3), (0x8971F15A, 0xCFBE389F), (0x8926B677, 0xD078AD9E), (0x88DCA0D3, 0xD13397E2),
   (0x8893B125, 0xD1EEF59E), (0x884BE821, 0xD2AAC504), (0x88054677, 0xD3670446), (0x87BFCCD7, 0xD423B191),
   (0x877B7BEC, 0xD4E0CB15), (0x8738545E, 0xD59E4EFF), (0x86F656D3, 0xD65C3B7B), (0x86B583EE, 0xD71A8EB5),
   (0x8675DC4F, 0xD7D946D8), (0x86376092, 0xD898620C), (0x85FA1153, 0xD957DE7A), (0x85BDEF28, 0xDA17BA4A),
   (0x8582FAA5, 0xDAD7F3A2), (0x8549345C, 0xDB9888A8), (0x85109CDD, 0xDC597781), (0x84D934B1, 0xDD1ABE51),
   (0x84A2FC62, 0xDDDC5B3B), (0x846DF477, 0xDE9E4C60), (0x843A1D70, 0xDF608FE4), (0x840777D0, 0xE02323E5),
   (0x83D60412, 0xE0E60685), (0x83A5C2B0, 0xE1A935E2), (0x8376B422, 0xE26CB01B), (0x8348D8DC, 0xE330734D),
   (0x831C314E, 0xE3F47D96), (0x82F0BDE8, 0xE4B8CD11), (0x82C67F14, 0xE57D5FDA), (0x829D753A, 0xE642340D)]

/-- 20_memory.md Appendix A, m = 480 to 511: the pairs `(C_m, S_m)`. -/
def appendixA15 : List (Nat × Nat) :=
  [(0x8275A0C0, 0xE70747C4), (0x824F0208, 0xE7CC9917), (0x82299971, 0xE8922622), (0x82056758, 0xE957ECFB),
   (0x81E26C16, 0xEA1DEBBB), (0x81C0A801, 0xEAE4207A), (0x81A01B6D, 0xEBAA894F), (0x8180C6A9, 0xEC71244F),
   (0x8162AA04, 0xED37EF91), (0x8145C5C7, 0xEDFEE92B), (0x812A1A3A, 0xEEC60F31), (0x810FA7A0, 0xEF8D5FB8),
   (0x80F66E3C, 0xF054D8D5), (0x80DE6E4C, 0xF11C789A), (0x80C7A80A, 0xF1E43D1C), (0x80B21BAF, 0xF2AC246E),
   (0x809DC971, 0xF3742CA2), (0x808AB180, 0xF43C53CB), (0x8078D40D, 0xF50497FB), (0x80683143, 0xF5CCF743),
   (0x8058C94C, 0xF6956FB7), (0x804A9C4D, 0xF75DFF66), (0x803DAA6A, 0xF826A462), (0x8031F3C2, 0xF8EF5CBB),
   (0x80277872, 0xF9B82684), (0x801E3895, 0xFA80FFCB), (0x80163440, 0xFB49E6A3), (0x800F6B88, 0xFC12D91A),
   (0x8009DE7E, 0xFCDBD541), (0x80058D2F, 0xFDA4D929), (0x800277A6, 0xFE6DE2E0), (0x80009DEA, 0xFF36F078)]

/-- 20_memory.md Appendix A, m = 512 to 543: the pairs `(C_m, S_m)`. -/
def appendixA16 : List (Nat × Nat) :=
  [(0x80000000, 0x00000000), (0x80009DEA, 0x00C90F88), (0x800277A6, 0x01921D20), (0x80058D2F, 0x025B26D7),
   (0x8009DE7E, 0x03242ABF), (0x800F6B88, 0x03ED26E6), (0x80163440, 0x04B6195D), (0x801E3895, 0x057F0035),
   (0x80277872, 0x0647D97C), (0x8031F3C2, 0x0710A345), (0x803DAA6A, 0x07D95B9E), (0x804A9C4D, 0x08A2009A),
   (0x8058C94C, 0x096A9049), (0x80683143, 0x0A3308BD), (0x8078D40D, 0x0AFB6805), (0x808AB180, 0x0BC3AC35),
   (0x809DC971, 0x0C8BD35E), (0x80B21BAF, 0x0D53DB92), (0x80C7A80A, 0x0E1BC2E4), (0x80DE6E4C, 0x0EE38766),
   (0x80F66E3C, 0x0FAB272B), (0x810FA7A0, 0x1072A048), (0x812A1A3A, 0x1139F0CF), (0x8145C5C7, 0x120116D5),
   (0x8162AA04, 0x12C8106F), (0x8180C6A9, 0x138EDBB1), (0x81A01B6D, 0x145576B1), (0x81C0A801, 0x151BDF86),
   (0x81E26C16, 0x15E21445), (0x82056758, 0x16A81305), (0x82299971, 0x176DD9DE), (0x824F0208, 0x183366E9)]

/-- 20_memory.md Appendix A, m = 544 to 575: the pairs `(C_m, S_m)`. -/
def appendixA17 : List (Nat × Nat) :=
  [(0x8275A0C0, 0x18F8B83C), (0x829D753A, 0x19BDCBF3), (0x82C67F14, 0x1A82A026), (0x82F0BDE8, 0x1B4732EF),
   (0x831C314E, 0x1C0B826A), (0x8348D8DC, 0x1CCF8CB3), (0x8376B422, 0x1D934FE5), (0x83A5C2B0, 0x1E56CA1E),
   (0x83D60412, 0x1F19F97B), (0x840777D0, 0x1FDCDC1B), (0x843A1D70, 0x209F701C), (0x846DF477, 0x2161B3A0),
   (0x84A2FC62, 0x2223A4C5), (0x84D934B1, 0x22E541AF), (0x85109CDD, 0x23A6887F), (0x8549345C, 0x24677758),
   (0x8582FAA5, 0x25280C5E), (0x85BDEF28, 0x25E845B6), (0x85FA1153, 0x26A82186), (0x86376092, 0x27679DF4),
   (0x8675DC4F, 0x2826B928), (0x86B583EE, 0x28E5714B), (0x86F656D3, 0x29A3C485), (0x8738545E, 0x2A61B101),
   (0x877B7BEC, 0x2B1F34EB), (0x87BFCCD7, 0x2BDC4E6F), (0x88054677, 0x2C98FBBA), (0x884BE821, 0x2D553AFC),
   (0x8893B125, 0x2E110A62), (0x88DCA0D3, 0x2ECC681E), (0x8926B677, 0x2F875262), (0x8971F15A, 0x3041C761)]

/-- 20_memory.md Appendix A, m = 576 to 607: the pairs `(C_m, S_m)`. -/
def appendixA18 : List (Nat × Nat) :=
  [(0x89BE50C3, 0x30FBC54D), (0x8A0BD3F5, 0x31B54A5E), (0x8A5A7A31, 0x326E54C7), (0x8AAA42B4, 0x3326E2C3),
   (0x8AFB2CBB, 0x33DEF287), (0x8B4D377C, 0x34968250), (0x8BA0622F, 0x354D9057), (0x8BF4AC05, 0x36041AD9),
   (0x8C4A142F, 0x36BA2014), (0x8CA099DA, 0x376F9E46), (0x8CF83C30, 0x382493B0), (0x8D50FA59, 0x38D8FE93),
   (0x8DAAD37B, 0x398CDD32), (0x8E05C6B7, 0x3A402DD2), (0x8E61D32E, 0x3AF2EEB7), (0x8EBEF7FB, 0x3BA51E29),
   (0x8F1D343A, 0x3C56BA70), (0x8F7C8701, 0x3D07C1D6), (0x8FDCEF66, 0x3DB832A6), (0x903E6C7B, 0x3E680B2C),
   (0x90A0FD4E, 0x3F1749B8), (0x9104A0EE, 0x3FC5EC98), (0x91695663, 0x4073F21D), (0x91CF1CB6, 0x4121589B),
   (0x9235F2EC, 0x41CE1E65), (0x929DD806, 0x427A41D0), (0x9306CB04, 0x4325C135), (0x9370CAE4, 0x43D09AED),
   (0x93DBD6A0, 0x447ACD50), (0x9447ED2F, 0x452456BD), (0x94B50D87, 0x45CD358F), (0x9523369C, 0x46756828)]

/-- 20_memory.md Appendix A, m = 608 to 639: the pairs `(C_m, S_m)`. -/
def appendixA19 : List (Nat × Nat) :=
  [(0x9592675C, 0x471CECE7), (0x96029EB6, 0x47C3C22F), (0x9673DB94, 0x4869E665), (0x96E61CE0, 0x490F57EE),
   (0x9759617F, 0x49B41533), (0x97CDA855, 0x4A581C9E), (0x9842F043, 0x4AFB6C98), (0x98B93828, 0x4B9E0390),
   (0x99307EE0, 0x4C3FDFF4), (0x99A8C345, 0x4CE10034), (0x9A22042D, 0x4D8162C4), (0x9A9C406E, 0x4E210617),
   (0x9B1776DA, 0x4EBFE8A5), (0x9B93A641, 0x4F5E08E3), (0x9C10CD70, 0x4FFB654D), (0x9C8EEB34, 0x5097FC5E),
   (0x9D0DFE54, 0x5133CC94), (0x9D8E0597, 0x51CED46E), (0x9E0EFFC1, 0x5269126E), (0x9E90EB94, 0x53028518),
   (0x9F13C7D0, 0x539B2AF0), (0x9F979331, 0x5433027D), (0xA01C4C73, 0x54CA0A4B), (0xA0A1F24D, 0x556040E2),
   (0xA1288376, 0x55F5A4D2), (0xA1AFFEA3, 0x568A34A9), (0xA2386284, 0x571DEEFA), (0xA2C1ADC9, 0x57B0D256),
   (0xA34BDF20, 0x5842DD54), (0xA3D6F534, 0x58D40E8C), (0xA462EEAC, 0x59646498), (0xA4EFCA31, 0x59F3DE12)]

/-- 20_memory.md Appendix A, m = 640 to 671: the pairs `(C_m, S_m)`. -/
def appendixA20 : List (Nat × Nat) :=
  [(0xA57D8666, 0x5A82799A), (0xA60C21EE, 0x5B1035CF), (0xA69B9B68, 0x5B9D1154), (0xA72BF174, 0x5C290ACC),
   (0xA7BD22AC, 0x5CB420E0), (0xA84F2DAA, 0x5D3E5237), (0xA8E21106, 0x5DC79D7C), (0xA975CB57, 0x5E50015D),
   (0xAA0A5B2E, 0x5ED77C8A), (0xAA9FBF1E, 0x5F5E0DB3), (0xAB35F5B5, 0x5FE3B38D), (0xABCCFD83, 0x60686CCF),
   (0xAC64D510, 0x60EC3830), (0xACFD7AE8, 0x616F146C), (0xAD96ED92, 0x61F1003F), (0xAE312B92, 0x6271FA69),
   (0xAECC336C, 0x62F201AC), (0xAF6803A2, 0x637114CC), (0xB0049AB3, 0x63EF3290), (0xB0A1F71D, 0x646C59BF),
   (0xB140175B, 0x64E88926), (0xB1DEF9E9, 0x6563BF92), (0xB27E9D3C, 0x65DDFBD3), (0xB31EFFCC, 0x66573CBB),
   (0xB3C0200C, 0x66CF8120), (0xB461FC70, 0x6746C7D8), (0xB5049368, 0x67BD0FBD), (0xB5A7E362, 0x683257AB),
   (0xB64BEACD, 0x68A69E81), (0xB6F0A812, 0x6919E320), (0xB796199B, 0x698C246C), (0xB83C3DD1, 0x69FD614A)]

/-- 20_memory.md Appendix A, m = 672 to 703: the pairs `(C_m, S_m)`. -/
def appendixA21 : List (Nat × Nat) :=
  [(0xB8E31319, 0x6A6D98A4), (0xB98A97D8, 0x6ADCC964), (0xBA32CA71, 0x6B4AF279), (0xBADBA943, 0x6BB812D1),
   (0xBB8532B0, 0x6C242960), (0xBC2F6513, 0x6C8F351C), (0xBCDA3ECB, 0x6CF934FC), (0xBD85BE30, 0x6D6227FA),
   (0xBE31E19B, 0x6DCA0D14), (0xBEDEA765, 0x6E30E34A), (0xBF8C0DE3, 0x6E96A99D), (0xC03A1368, 0x6EFB5F12),
   (0xC0E8B648, 0x6F5F02B2), (0xC197F4D4, 0x6FC19385), (0xC247CD5A, 0x7023109A), (0xC2F83E2A, 0x708378FF),
   (0xC3A94590, 0x70E2CBC6), (0xC45AE1D7, 0x71410805), (0xC50D1149, 0x719E2CD2), (0xC5BFD22E, 0x71FA3949),
   (0xC67322CE, 0x72552C85), (0xC727016D, 0x72AF05A7), (0xC7DB6C50, 0x7307C3D0), (0xC89061BA, 0x735F6626),
   (0xC945DFEC, 0x73B5EBD1), (0xC9FBE527, 0x740B53FB), (0xCAB26FA9, 0x745F9DD1), (0xCB697DB0, 0x74B2C884),
   (0xCC210D79, 0x7504D345), (0xCCD91D3D, 0x7555BD4C), (0xCD91AB39, 0x75A585CF), (0xCE4AB5A2, 0x75F42C0B)]

/-- 20_memory.md Appendix A, m = 704 to 735: the pairs `(C_m, S_m)`. -/
def appendixA22 : List (Nat × Nat) :=
  [(0xCF043AB3, 0x7641AF3D), (0xCFBE389F, 0x768E0EA6), (0xD078AD9E, 0x76D94989), (0xD13397E2, 0x77235F2D),
   (0xD1EEF59E, 0x776C4EDB), (0xD2AAC504, 0x77B417DF), (0xD3670446, 0x77FAB989), (0xD423B191, 0x78403329),
   (0xD4E0CB15, 0x78848414), (0xD59E4EFF, 0x78C7ABA2), (0xD65C3B7B, 0x7909A92D), (0xD71A8EB5, 0x794A7C12),
   (0xD7D946D8, 0x798A23B1), (0xD898620C, 0x79C89F6E), (0xD957DE7A, 0x7A05EEAD), (0xDA17BA4A, 0x7A4210D8),
   (0xDAD7F3A2, 0x7A7D055B), (0xDB9888A8, 0x7AB6CBA4), (0xDC597781, 0x7AEF6323), (0xDD1ABE51, 0x7B26CB4F),
   (0xDDDC5B3B, 0x7B5D039E), (0xDE9E4C60, 0x7B920B89), (0xDF608FE4, 0x7BC5E290), (0xE02323E5, 0x7BF88830),
   (0xE0E60685, 0x7C29FBEE), (0xE1A935E2, 0x7C5A3D50), (0xE26CB01B, 0x7C894BDE), (0xE330734D, 0x7CB72724),
   (0xE3F47D96, 0x7CE3CEB2), (0xE4B8CD11, 0x7D0F4218), (0xE57D5FDA, 0x7D3980EC), (0xE642340D, 0x7D628AC6)]

/-- 20_memory.md Appendix A, m = 736 to 767: the pairs `(C_m, S_m)`. -/
def appendixA23 : List (Nat × Nat) :=
  [(0xE70747C4, 0x7D8A5F40), (0xE7CC9917, 0x7DB0FDF8), (0xE8922622, 0x7DD6668F), (0xE957ECFB, 0x7DFA98A8),
   (0xEA1DEBBB, 0x7E1D93EA), (0xEAE4207A, 0x7E3F57FF), (0xEBAA894F, 0x7E5FE493), (0xEC71244F, 0x7E7F3957),
   (0xED37EF91, 0x7E9D55FC), (0xEDFEE92B, 0x7EBA3A39), (0xEEC60F31, 0x7ED5E5C6), (0xEF8D5FB8, 0x7EF05860),
   (0xF054D8D5, 0x7F0991C4), (0xF11C789A, 0x7F2191B4), (0xF1E43D1C, 0x7F3857F6), (0xF2AC246E, 0x7F4DE451),
   (0xF3742CA2, 0x7F62368F), (0xF43C53CB, 0x7F754E80), (0xF50497FB, 0x7F872BF3), (0xF5CCF743, 0x7F97CEBD),
   (0xF6956FB7, 0x7FA736B4), (0xF75DFF66, 0x7FB563B3), (0xF826A462, 0x7FC25596), (0xF8EF5CBB, 0x7FCE0C3E),
   (0xF9B82684, 0x7FD8878E), (0xFA80FFCB, 0x7FE1C76B), (0xFB49E6A3, 0x7FE9CBC0), (0xFC12D91A, 0x7FF09478),
   (0xFCDBD541, 0x7FF62182), (0xFDA4D929, 0x7FFA72D1), (0xFE6DE2E0, 0x7FFD885A), (0xFF36F078, 0x7FFF6216)]

/-- 20_memory.md Appendix A: TW_1024, in chunks of 32 pairs. -/
def appendixA : List (List (Nat × Nat)) :=
  [appendixA00, appendixA01, appendixA02, appendixA03, appendixA04, appendixA05, appendixA06, appendixA07,
   appendixA08, appendixA09, appendixA10, appendixA11, appendixA12, appendixA13, appendixA14, appendixA15,
   appendixA16, appendixA17, appendixA18, appendixA19, appendixA20, appendixA21, appendixA22, appendixA23]

/-- `2^31 * cos(2*pi*i/4096)` rounded to the nearest integer, i = 0 to 31. -/
def quarterWave00 : List Nat :=
  [0x80000000, 0x7FFFF621, 0x7FFFD886, 0x7FFFA72C, 0x7FFF6216, 0x7FFF0943, 0x7FFE9CB2, 0x7FFE1C65,
   0x7FFD885A, 0x7FFCE093, 0x7FFC250F, 0x7FFB55CE, 0x7FFA72D1, 0x7FF97C18, 0x7FF871A2, 0x7FF75370,
   0x7FF62182, 0x7FF4DBD9, 0x7FF38274, 0x7FF21553, 0x7FF09478, 0x7FEEFFE1, 0x7FED5791, 0x7FEB9B85,
   0x7FE9CBC0, 0x7FE7E841, 0x7FE5F108, 0x7FE3E616, 0x7FE1C76B, 0x7FDF9508, 0x7FDD4EEC, 0x7FDAF519]

/-- `2^31 * cos(2*pi*i/4096)` rounded to the nearest integer, i = 32 to 63. -/
def quarterWave01 : List Nat :=
  [0x7FD8878E, 0x7FD6064C, 0x7FD37153, 0x7FD0C8A3, 0x7FCE0C3E, 0x7FCB3C23, 0x7FC85854, 0x7FC560CF,
   0x7FC25596, 0x7FBF36AA, 0x7FBC040A, 0x7FB8BDB8, 0x7FB563B3, 0x7FB1F5FC, 0x7FAE7495, 0x7FAADF7C,
   0x7FA736B4, 0x7FA37A3C, 0x7F9FAA15, 0x7F9BC640, 0x7F97CEBD, 0x7F93C38C, 0x7F8FA4B0, 0x7F8B7227,
   0x7F872BF3, 0x7F82D214, 0x7F7E648C, 0x7F79E35A, 0x7F754E80, 0x7F70A5FE, 0x7F6BE9D4, 0x7F671A05]

/-- `2^31 * cos(2*pi*i/4096)` rounded to the nearest integer, i = 64 to 95. -/
def quarterWave02 : List Nat :=
  [0x7F62368F, 0x7F5D3F75, 0x7F5834B7, 0x7F531655, 0x7F4DE451, 0x7F489EAA, 0x7F434563, 0x7F3DD87C,
   0x7F3857F6, 0x7F32C3D1, 0x7F2D1C0E, 0x7F2760AF, 0x7F2191B4, 0x7F1BAF1E, 0x7F15B8EE, 0x7F0FAF25,
   0x7F0991C4, 0x7F0360CB, 0x7EFD1C3C, 0x7EF6C418, 0x7EF05860, 0x7EE9D914, 0x7EE34636, 0x7EDC9FC6,
   0x7ED5E5C6, 0x7ECF1837, 0x7EC8371A, 0x7EC14270, 0x7EBA3A39, 0x7EB31E78, 0x7EABEF2C, 0x7EA4AC58]

/-- `2^31 * cos(2*pi*i/4096)` rounded to the nearest integer, i = 96 to 127. -/
def quarterWave03 : List Nat :=
  [0x7E9D55FC, 0x7E95EC1A, 0x7E8E6EB2, 0x7E86DDC6, 0x7E7F3957, 0x7E778166, 0x7E6FB5F4, 0x7E67D703,
   0x7E5FE493, 0x7E57DEA7, 0x7E4FC53E, 0x7E47985B, 0x7E3F57FF, 0x7E37042A, 0x7E2E9CDF, 0x7E26221F,
   0x7E1D93EA, 0x7E14F242, 0x7E0C3D29, 0x7E0374A0, 0x7DFA98A8, 0x7DF1A942, 0x7DE8A670, 0x7DDF9034,
   0x7DD6668F, 0x7DCD2981, 0x7DC3D90D, 0x7DBA7534, 0x7DB0FDF8, 0x7DA77359, 0x7D9DD55A, 0x7D9423FC]

/-- `2^31 * cos(2*pi*i/4096)` rounded to the nearest integer, i = 128 to 159. -/
def quarterWave04 : List Nat :=
  [0x7D8A5F40, 0x7D808728, 0x7D769BB5, 0x7D6C9CE9, 0x7D628AC6, 0x7D58654D, 0x7D4E2C7F, 0x7D43E05E,
   0x7D3980EC, 0x7D2F0E2B, 0x7D24881B, 0x7D19EEBF, 0x7D0F4218, 0x7D048228, 0x7CF9AEF0, 0x7CEEC873,
   0x7CE3CEB2, 0x7CD8C1AE, 0x7CCDA169, 0x7CC26DE5, 0x7CB72724, 0x7CABCD28, 0x7CA05FF1, 0x7C94DF83,
   0x7C894BDE, 0x7C7DA505, 0x7C71EAF9, 0x7C661DBC, 0x7C5A3D50, 0x7C4E49B7, 0x7C4242F2, 0x7C362904]

/-- `2^31 * cos(2*pi*i/4096)` rounded to the nearest integer, i = 160 to 191. -/
def quarterWave05 : List Nat :=
  [0x7C29FBEE, 0x7C1DBBB3, 0x7C116853, 0x7C0501D2, 0x7BF88830, 0x7BEBFB70, 0x7BDF5B94, 0x7BD2A89E,
   0x7BC5E290, 0x7BB9096B, 0x7BAC1D31, 0x7B9F1DE6, 0x7B920B89, 0x7B84E61F, 0x7B77ADA8, 0x7B6A6227,
   0x7B5D039E, 0x7B4F920E, 0x7B420D7A, 0x7B3475E5, 0x7B26CB4F, 0x7B190DBC, 0x7B0B3D2C, 0x7AFD59A4,
   0x7AEF6323, 0x7AE159AE, 0x7AD33D45, 0x7AC50DEC, 0x7AB6CBA4, 0x7AA8766F, 0x7A9A0E50, 0x7A8B9348]

/-- `2^31 * cos(2*pi*i/4096)` rounded to the nearest integer, i = 192 to 223. -/
def quarterWave06 : List Nat :=
  [0x7A7D055B, 0x7A6E648A, 0x7A5FB0D8, 0x7A50EA47, 0x7A4210D8, 0x7A332490, 0x7A24256F, 0x7A151378,
   0x7A05EEAD, 0x79F6B711, 0x79E76CA7, 0x79D80F6F, 0x79C89F6E, 0x79B91CA4, 0x79A98715, 0x7999DEC4,
   0x798A23B1, 0x797A55E0, 0x796A7554, 0x795A820E, 0x794A7C12, 0x793A6361, 0x792A37FE, 0x7919F9EC,
   0x7909A92D, 0x78F945C3, 0x78E8CFB2, 0x78D846FB, 0x78C7ABA2, 0x78B6FDA8, 0x78A63D11, 0x789569DF]

/-- `2^31 * cos(2*pi*i/4096)` rounded to the nearest integer, i = 224 to 255. -/
def quarterWave07 : List Nat :=
  [0x78848414, 0x78738BB3, 0x786280BF, 0x7851633B, 0x78403329, 0x782EF08B, 0x781D9B65, 0x780C33B8,
   0x77FAB989, 0x77E92CD9, 0x77D78DAA, 0x77C5DC01, 0x77B417DF, 0x77A24148, 0x7790583E, 0x777E5CC3,
   0x776C4EDB, 0x775A2E89, 0x7747FBCE, 0x7735B6AF, 0x77235F2D, 0x7710F54C, 0x76FE790E, 0x76EBEA77,
   0x76D94989, 0x76C69647, 0x76B3D0B4, 0x76A0F8D2, 0x768E0EA6, 0x767B1231, 0x76680376, 0x7654E279]

/-- `2^31 * cos(2*pi*i/4096)` rounded to the nearest integer, i = 256 to 287. -/
def quarterWave08 : List Nat :=
  [0x7641AF3D, 0x762E69C4, 0x761B1211, 0x7607A828, 0x75F42C0B, 0x75E09DBD, 0x75CCFD42, 0x75B94A9C,
   0x75A585CF, 0x7591AEDD, 0x757DC5CA, 0x7569CA99, 0x7555BD4C, 0x75419DE7, 0x752D6C6C, 0x751928E0,
   0x7504D345, 0x74F06B9E, 0x74DBF1EF, 0x74C7663A, 0x74B2C884, 0x749E18CD, 0x7489571C, 0x74748371,
   0x745F9DD1, 0x744AA63F, 0x74359CBD, 0x74208150, 0x740B53FB, 0x73F614C0, 0x73E0C3A3, 0x73CB60A8]

/-- `2^31 * cos(2*pi*i/4096)` rounded to the nearest integer, i = 288 to 319. -/
def quarterWave09 : List Nat :=
  [0x73B5EBD1, 0x73A06522, 0x738ACC9E, 0x73752249, 0x735F6626, 0x73499838, 0x7333B883, 0x731DC70A,
   0x7307C3D0, 0x72F1AED9, 0x72DB8828, 0x72C54FC1, 0x72AF05A7, 0x7298A9DD, 0x72823C67, 0x726BBD48,
   0x72552C85, 0x723E8A20, 0x7227D61C, 0x7211107E, 0x71FA3949, 0x71E35080, 0x71CC5626, 0x71B54A41,
   0x719E2CD2, 0x7186FDDE, 0x716FBD68, 0x71586B74, 0x71410805, 0x7129931F, 0x71120CC5, 0x70FA74FC]

/-- `2^31 * cos(2*pi*i/4096)` rounded to the nearest integer, i = 320 to 351. -/
def quarterWave10 : List Nat :=
  [0x70E2CBC6, 0x70CB1128, 0x70B34525, 0x709B67C0, 0x708378FF, 0x706B78E3, 0x70536771, 0x703B44AD,
   0x7023109A, 0x700ACB3C, 0x6FF27497, 0x6FDA0CAE, 0x6FC19385, 0x6FA90921, 0x6F906D84, 0x6F77C0B3,
   0x6F5F02B2, 0x6F463383, 0x6F2D532C, 0x6F1461B0, 0x6EFB5F12, 0x6EE24B57, 0x6EC92683, 0x6EAFF099,
   0x6E96A99D, 0x6E7D5193, 0x6E63E87F, 0x6E4A6E66, 0x6E30E34A, 0x6E174730, 0x6DFD9A1C, 0x6DE3DC11]

/-- `2^31 * cos(2*pi*i/4096)` rounded to the nearest integer, i = 352 to 383. -/
def quarterWave11 : List Nat :=
  [0x6DCA0D14, 0x6DB02D29, 0x6D963C54, 0x6D7C3A98, 0x6D6227FA, 0x6D48047E, 0x6D2DD027, 0x6D138AFB,
   0x6CF934FC, 0x6CDECE2F, 0x6CC45698, 0x6CA9CE3B, 0x6C8F351C, 0x6C748B3F, 0x6C59D0A9, 0x6C3F055D,
   0x6C242960, 0x6C093CB6, 0x6BEE3F62, 0x6BD3316A, 0x6BB812D1, 0x6B9CE39B, 0x6B81A3CD, 0x6B66536B,
   0x6B4AF279, 0x6B2F80FB, 0x6B13FEF5, 0x6AF86C6C, 0x6ADCC964, 0x6AC115E2, 0x6AA551E9, 0x6A897D7D]

/-- `2^31 * cos(2*pi*i/4096)` rounded to the nearest integer, i = 384 to 415. -/
def quarterWave12 : List Nat :=
  [0x6A6D98A4, 0x6A51A361, 0x6A359DB9, 0x6A1987B0, 0x69FD614A, 0x69E12A8C, 0x69C4E37A, 0x69A88C19,
   0x698C246C, 0x696FAC78, 0x69532442, 0x69368BCE, 0x6919E320, 0x68FD2A3D, 0x68E06129, 0x68C387E9,
   0x68A69E81, 0x6889A4F6, 0x686C9B4B, 0x684F8186, 0x683257AB, 0x68151DBE, 0x67F7D3C5, 0x67DA79C3,
   0x67BD0FBD, 0x679F95B7, 0x67820BB7, 0x676471C0, 0x6746C7D8, 0x67290E02, 0x670B4444, 0x66ED6AA1]

/-- `2^31 * cos(2*pi*i/4096)` rounded to the nearest integer, i = 416 to 447. -/
def quarterWave13 : List Nat :=
  [0x66CF8120, 0x66B187C3, 0x66937E91, 0x6675658C, 0x66573CBB, 0x66390422, 0x661ABBC5, 0x65FC63A9,
   0x65DDFBD3, 0x65BF8447, 0x65A0FD0B, 0x65826622, 0x6563BF92, 0x6545095F, 0x6526438F, 0x65076E25,
   0x64E88926, 0x64C99498, 0x64AA907F, 0x648B7CE0, 0x646C59BF, 0x644D2722, 0x642DE50D, 0x640E9386,
   0x63EF3290, 0x63CFC231, 0x63B0426D, 0x6390B34A, 0x637114CC, 0x635166F9, 0x6331A9D4, 0x6311DD64]

/-- `2^31 * cos(2*pi*i/4096)` rounded to the nearest integer, i = 448 to 479. -/
def quarterWave14 : List Nat :=
  [0x62F201AC, 0x62D216B3, 0x62B21C7B, 0x6292130C, 0x6271FA69, 0x6251D298, 0x62319B9D, 0x6211557E,
   0x61F1003F, 0x61D09BE5, 0x61B02876, 0x618FA5F7, 0x616F146C, 0x614E73DA, 0x612DC447, 0x610D05B7,
   0x60EC3830, 0x60CB5BB7, 0x60AA7050, 0x60897601, 0x60686CCF, 0x604754BF, 0x60262DD6, 0x6004F819,
   0x5FE3B38D, 0x5FC26038, 0x5FA0FE1F, 0x5F7F8D46, 0x5F5E0DB3, 0x5F3C7F6B, 0x5F1AE274, 0x5EF936D1]

/-- `2^31 * cos(2*pi*i/4096)` rounded to the nearest integer, i = 480 to 511. -/
def quarterWave15 : List Nat :=
  [0x5ED77C8A, 0x5EB5B3A2, 0x5E93DC1F, 0x5E71F606, 0x5E50015D, 0x5E2DFE29, 0x5E0BEC6E, 0x5DE9CC33,
   0x5DC79D7C, 0x5DA5604F, 0x5D8314B1, 0x5D60BAA7, 0x5D3E5237, 0x5D1BDB65, 0x5CF95638, 0x5CD6C2B5,
   0x5CB420E0, 0x5C9170BF, 0x5C6EB258, 0x5C4BE5B0, 0x5C290ACC, 0x5C0621B2, 0x5BE32A67, 0x5BC024F0,
   0x5B9D1154, 0x5B79EF96, 0x5B56BFBD, 0x5B3381CE, 0x5B1035CF, 0x5AECDBC5, 0x5AC973B5, 0x5AA5FDA5]

/-- `2^31 * cos(2*pi*i/4096)` rounded to the nearest integer, i = 512 to 543. -/
def quarterWave16 : List Nat :=
  [0x5A82799A, 0x5A5EE79A, 0x5A3B47AB, 0x5A1799D1, 0x59F3DE12, 0x59D01475, 0x59AC3CFD, 0x598857B2,
   0x59646498, 0x594063B5, 0x591C550E, 0x58F838A9, 0x58D40E8C, 0x58AFD6BD, 0x588B9140, 0x58673E1B,
   0x5842DD54, 0x581E6EF1, 0x57F9F2F8, 0x57D5696D, 0x57B0D256, 0x578C2DBA, 0x57677B9D, 0x5742BC06,
   0x571DEEFA, 0x56F9147E, 0x56D42C99, 0x56AF3750, 0x568A34A9, 0x566524AA, 0x56400758, 0x561ADCB9]

/-- `2^31 * cos(2*pi*i/4096)` rounded to the nearest integer, i = 544 to 575. -/
def quarterWave17 : List Nat :=
  [0x55F5A4D2, 0x55D05FAA, 0x55AB0D46, 0x5585ADAD, 0x556040E2, 0x553AC6EE, 0x55153FD4, 0x54EFAB9C,
   0x54CA0A4B, 0x54A45BE6, 0x547EA073, 0x5458D7F9, 0x5433027D, 0x540D2005, 0x53E73097, 0x53C13439,
   0x539B2AF0, 0x537514C2, 0x534EF1B5, 0x5328C1D0, 0x53028518, 0x52DC3B92, 0x52B5E546, 0x528F8238,
   0x5269126E, 0x524295F0, 0x521C0CC2, 0x51F576EA, 0x51CED46E, 0x51A82555, 0x518169A5, 0x515AA162]

/-- `2^31 * cos(2*pi*i/4096)` rounded to the nearest integer, i = 576 to 607. -/
def quarterWave18 : List Nat :=
  [0x5133CC94, 0x510CEB40, 0x50E5FD6D, 0x50BF031F, 0x5097FC5E, 0x5070E92F, 0x5049C999, 0x50229DA1,
   0x4FFB654D, 0x4FD420A4, 0x4FACCFAB, 0x4F857269, 0x4F5E08E3, 0x4F369320, 0x4F0F1126, 0x4EE782FB,
   0x4EBFE8A5, 0x4E984229, 0x4E708F8F, 0x4E48D0DD, 0x4E210617, 0x4DF92F46, 0x4DD14C6E, 0x4DA95D96,
   0x4D8162C4, 0x4D595BFE, 0x4D31494B, 0x4D092AB0, 0x4CE10034, 0x4CB8C9DD, 0x4C9087B1, 0x4C6839B7]

/-- `2^31 * cos(2*pi*i/4096)` rounded to the nearest integer, i = 608 to 639. -/
def quarterWave19 : List Nat :=
  [0x4C3FDFF4, 0x4C177A6E, 0x4BEF092D, 0x4BC68C36, 0x4B9E0390, 0x4B756F40, 0x4B4CCF4D, 0x4B2423BE,
   0x4AFB6C98, 0x4AD2A9E2, 0x4AA9DBA2, 0x4A8101DE, 0x4A581C9E, 0x4A2F2BE6, 0x4A062FBD, 0x49DD282A,
   0x49B41533, 0x498AF6DF, 0x4961CD33, 0x49389836, 0x490F57EE, 0x48E60C62, 0x48BCB599, 0x48935397,
   0x4869E665, 0x48406E08, 0x4816EA86, 0x47ED5BE6, 0x47C3C22F, 0x479A1D67, 0x47706D93, 0x4746B2BC]

/-- `2^31 * cos(2*pi*i/4096)` rounded to the nearest integer, i = 640 to 671. -/
def quarterWave20 : List Nat :=
  [0x471CECE7, 0x46F31C1A, 0x46C9405C, 0x469F59B4, 0x46756828, 0x464B6BBE, 0x4621647D, 0x45F7526B,
   0x45CD358F, 0x45A30DF0, 0x4578DB93, 0x454E9E80, 0x452456BD, 0x44FA0450, 0x44CFA740, 0x44A53F93,
   0x447ACD50, 0x4450507E, 0x4425C923, 0x43FB3746, 0x43D09AED, 0x43A5F41E, 0x437B42E1, 0x4350873C,
   0x4325C135, 0x42FAF0D4, 0x42D0161E, 0x42A5311B, 0x427A41D0, 0x424F4845, 0x42244481, 0x41F93689]

/-- `2^31 * cos(2*pi*i/4096)` rounded to the nearest integer, i = 672 to 703. -/
def quarterWave21 : List Nat :=
  [0x41CE1E65, 0x41A2FC1A, 0x4177CFB1, 0x414C992F, 0x4121589B, 0x40F60DFB, 0x40CAB958, 0x409F5AB6,
   0x4073F21D, 0x40487F94, 0x401D0321, 0x3FF17CCA, 0x3FC5EC98, 0x3F9A5290, 0x3F6EAEB8, 0x3F430119,
   0x3F1749B8, 0x3EEB889C, 0x3EBFBDCD, 0x3E93E950, 0x3E680B2C, 0x3E3C2369, 0x3E10320D, 0x3DE4371F,
   0x3DB832A6, 0x3D8C24A8, 0x3D600D2C, 0x3D33EC39, 0x3D07C1D6, 0x3CDB8E09, 0x3CAF50DA, 0x3C830A50]

/-- `2^31 * cos(2*pi*i/4096)` rounded to the nearest integer, i = 704 to 735. -/
def quarterWave22 : List Nat :=
  [0x3C56BA70, 0x3C2A6142, 0x3BFDFECD, 0x3BD19318, 0x3BA51E29, 0x3B78A007, 0x3B4C18BA, 0x3B1F8848,
   0x3AF2EEB7, 0x3AC64C0F, 0x3A99A057, 0x3A6CEB96, 0x3A402DD2, 0x3A136712, 0x39E6975E, 0x39B9BEBC,
   0x398CDD32, 0x395FF2C9, 0x3932FF87, 0x39060373, 0x38D8FE93, 0x38ABF0EF, 0x387EDA8E, 0x3851BB77,
   0x382493B0, 0x37F76341, 0x37CA2A30, 0x379CE885, 0x376F9E46, 0x37424B7B, 0x3714F02A, 0x36E78C5B]

/-- `2^31 * cos(2*pi*i/4096)` rounded to the nearest integer, i = 736 to 767. -/
def quarterWave23 : List Nat :=
  [0x36BA2014, 0x368CAB5C, 0x365F2E3B, 0x3631A8B8, 0x36041AD9, 0x35D684A6, 0x35A8E625, 0x357B3F5D,
   0x354D9057, 0x351FD918, 0x34F219A8, 0x34C4520D, 0x34968250, 0x3468AA76, 0x343ACA87, 0x340CE28B,
   0x33DEF287, 0x33B0FA84, 0x3382FA88, 0x3354F29B, 0x3326E2C3, 0x32F8CB07, 0x32CAAB6F, 0x329C8402,
   0x326E54C7, 0x32401DC6, 0x3211DF04, 0x31E39889, 0x31B54A5E, 0x3186F487, 0x3158970E, 0x312A31F8]

/-- `2^31 * cos(2*pi*i/4096)` rounded to the nearest integer, i = 768 to 799. -/
def quarterWave24 : List Nat :=
  [0x30FBC54D, 0x30CD5115, 0x309ED556, 0x30705217, 0x3041C761, 0x30133539, 0x2FE49BA7, 0x2FB5FAB2,
   0x2F875262, 0x2F58A2BE, 0x2F29EBCC, 0x2EFB2D95, 0x2ECC681E, 0x2E9D9B70, 0x2E6EC792, 0x2E3FEC8B,
   0x2E110A62, 0x2DE2211E, 0x2DB330C7, 0x2D843964, 0x2D553AFC, 0x2D263596, 0x2CF72939, 0x2CC815EE,
   0x2C98FBBA, 0x2C69DAA6, 0x2C3AB2B9, 0x2C0B83FA, 0x2BDC4E6F, 0x2BAD1221, 0x2B7DCF17, 0x2B4E8558]

/-- `2^31 * cos(2*pi*i/4096)` rounded to the nearest integer, i = 800 to 831. -/
def quarterWave25 : List Nat :=
  [0x2B1F34EB, 0x2AEFDDD8, 0x2AC08026, 0x2A911BDC, 0x2A61B101, 0x2A323F9E, 0x2A02C7B8, 0x29D34958,
   0x29A3C485, 0x29743946, 0x2944A7A2, 0x29150FA1, 0x28E5714B, 0x28B5CCA5, 0x288621B9, 0x2856708D,
   0x2826B928, 0x27F6FB92, 0x27C737D3, 0x27976DF1, 0x27679DF4, 0x2737C7E3, 0x2707EBC7, 0x26D809A5,
   0x26A82186, 0x26783370, 0x26483F6C, 0x26184581, 0x25E845B6, 0x25B84012, 0x2588349D, 0x2558235F]

/-- `2^31 * cos(2*pi*i/4096)` rounded to the nearest integer, i = 832 to 863. -/
def quarterWave26 : List Nat :=
  [0x25280C5E, 0x24F7EFA2, 0x24C7CD33, 0x2497A517, 0x24677758, 0x243743FA, 0x24070B08, 0x23D6CC87,
   0x23A6887F, 0x23763EF7, 0x2345EFF8, 0x23159B88, 0x22E541AF, 0x22B4E274, 0x22847DE0, 0x225413F8,
   0x2223A4C5, 0x21F3304F, 0x21C2B69C, 0x219237B5, 0x2161B3A0, 0x21312A65, 0x21009C0C, 0x20D0089C,
   0x209F701C, 0x206ED295, 0x203E300D, 0x200D888D, 0x1FDCDC1B, 0x1FAC2ABF, 0x1F7B7481, 0x1F4AB968]

/-- `2^31 * cos(2*pi*i/4096)` rounded to the nearest integer, i = 864 to 895. -/
def quarterWave27 : List Nat :=
  [0x1F19F97B, 0x1EE934C3, 0x1EB86B46, 0x1E879D0D, 0x1E56CA1E, 0x1E25F282, 0x1DF5163F, 0x1DC4355E,
   0x1D934FE5, 0x1D6265DD, 0x1D31774D, 0x1D00843D, 0x1CCF8CB3, 0x1C9E90B8, 0x1C6D9053, 0x1C3C8B8C,
   0x1C0B826A, 0x1BDA74F6, 0x1BA96335, 0x1B784D30, 0x1B4732EF, 0x1B161479, 0x1AE4F1D6, 0x1AB3CB0D,
   0x1A82A026, 0x1A517128, 0x1A203E1B, 0x19EF0707, 0x19BDCBF3, 0x198C8CE7, 0x195B49EA, 0x192A0304]

/-- `2^31 * cos(2*pi*i/4096)` rounded to the nearest integer, i = 896 to 927. -/
def quarterWave28 : List Nat :=
  [0x18F8B83C, 0x18C7699B, 0x18961728, 0x1864C0EA, 0x183366E9, 0x1802092C, 0x17D0A7BC, 0x179F429F,
   0x176DD9DE, 0x173C6D80, 0x170AFD8D, 0x16D98A0C, 0x16A81305, 0x1676987F, 0x16451A83, 0x16139918,
   0x15E21445, 0x15B08C12, 0x157F0086, 0x154D71AA, 0x151BDF86, 0x14EA4A1F, 0x14B8B17F, 0x148715AE,
   0x145576B1, 0x1423D492, 0x13F22F58, 0x13C0870A, 0x138EDBB1, 0x135D2D53, 0x132B7BF9, 0x12F9C7AA]

/-- `2^31 * cos(2*pi*i/4096)` rounded to the nearest integer, i = 928 to 959. -/
def quarterWave29 : List Nat :=
  [0x12C8106F, 0x1296564D, 0x1264994E, 0x1232D979, 0x120116D5, 0x11CF516A, 0x119D8941, 0x116BBE60,
   0x1139F0CF, 0x11082096, 0x10D64DBD, 0x10A4784B, 0x1072A048, 0x1040C5BB, 0x100EE8AD, 0x0FDD0926,
   0x0FAB272B, 0x0F7942C7, 0x0F475BFF, 0x0F1572DC, 0x0EE38766, 0x0EB199A4, 0x0E7FA99E, 0x0E4DB75B,
   0x0E1BC2E4, 0x0DE9CC40, 0x0DB7D376, 0x0D85D88F, 0x0D53DB92, 0x0D21DC87, 0x0CEFDB76, 0x0CBDD865]

/-- `2^31 * cos(2*pi*i/4096)` rounded to the nearest integer, i = 960 to 991. -/
def quarterWave30 : List Nat :=
  [0x0C8BD35E, 0x0C59CC68, 0x0C27C389, 0x0BF5B8CB, 0x0BC3AC35, 0x0B919DCF, 0x0B5F8D9F, 0x0B2D7BAF,
   0x0AFB6805, 0x0AC952AA, 0x0A973BA5, 0x0A6522FE, 0x0A3308BD, 0x0A00ECE8, 0x09CECF89, 0x099CB0A7,
   0x096A9049, 0x09386E78, 0x09064B3A, 0x08D42699, 0x08A2009A, 0x086FD947, 0x083DB0A7, 0x080B86C2,
   0x07D95B9E, 0x07A72F45, 0x077501BE, 0x0742D311, 0x0710A345, 0x06DE7262, 0x06AC406F, 0x067A0D76]

/-- `2^31 * cos(2*pi*i/4096)` rounded to the nearest integer, i = 992 to 1023. -/
def quarterWave31 : List Nat :=
  [0x0647D97C, 0x0615A48B, 0x05E36EA9, 0x05B137DF, 0x057F0035, 0x054CC7B1, 0x051A8E5C, 0x04E8543E,
   0x04B6195D, 0x0483DDC3, 0x0451A177, 0x041F6480, 0x03ED26E6, 0x03BAE8B2, 0x0388A9EA, 0x03566A96,
   0x03242ABF, 0x02F1EA6C, 0x02BFA9A4, 0x028D6870, 0x025B26D7, 0x0228E4E2, 0x01F6A297, 0x01C45FFE,
   0x01921D20, 0x015FDA03, 0x012D96B1, 0x00FB5330, 0x00C90F88, 0x0096CBC1, 0x006487E3, 0x003243F5]

/-- `2^31 * cos(2*pi*i/4096)` rounded to the nearest integer, i = 1024 to 1024. -/
def quarterWave32 : List Nat :=
  [0x00000000]

/-- `2^31 * cos(2*pi*i/4096)` rounded to the nearest integer, for i = 0 to 1024, in chunks of 32 (20_memory.md R92, R93;
DEDUCED, log entry 11). -/
def quarterWave : List (List Nat) :=
  [quarterWave00, quarterWave01, quarterWave02, quarterWave03, quarterWave04, quarterWave05, quarterWave06, quarterWave07,
   quarterWave08, quarterWave09, quarterWave10, quarterWave11, quarterWave12, quarterWave13, quarterWave14, quarterWave15,
   quarterWave16, quarterWave17, quarterWave18, quarterWave19, quarterWave20, quarterWave21, quarterWave22, quarterWave23,
   quarterWave24, quarterWave25, quarterWave26, quarterWave27, quarterWave28, quarterWave29, quarterWave30, quarterWave31, quarterWave32]

end Sys2Proof.Machine
end

