-- ==== Sys2Proof/Machine/Rom.lean ====
section
/-! DEFINITION. The two ROMs: the twiddle pairs `TW[m]` (20_memory.md R92 to R94) and the bit-reversal entries `BR[i]`
(20_memory.md R95). -/

namespace Sys2Proof.Machine

/-- An entry of a table kept in chunks of 32; `d` past its end. -/
def chunkAt {α : Type} (t : List (List α)) (d : α) (i : Nat) : α := (t.getD (i / 32) []).getD (i % 32) d

/-- `TW_1024[m]` (20_memory.md R94, Appendix A). -/
def appendixPair (m : Nat) : Cplx :=
  let p := chunkAt appendixA (0, 0) m
  ⟨BitVec.ofNat 32 p.1, BitVec.ofNat 32 p.2⟩

/-- `2^31 * cos(2*pi*i/4096)` rounded to the nearest integer, for 0 <= i <= 1024. -/
def quarterCos (i : Nat) : Int := ((chunkAt quarterWave 0 i : Nat) : Int)

/-- `TW_4096[m]` from the quarter wave: q31 is odd but for its clamp, so the three quadrants need only the signs
(20_memory.md R92, R93; DEDUCED, log entry 11). Past the ROM's depth, which no validated command reaches
(41_butterfly.md R190), it gives 0 (log entry 12). -/
def quarterPair (m : Nat) : Cplx :=
  let r := m % 1024
  match m / 1024 with
  | 0 => ⟨u32 (sat32 (quarterCos r)), u32 (sat32 (-quarterCos (1024 - r)))⟩
  | 1 => ⟨u32 (sat32 (-quarterCos (1024 - r))), u32 (sat32 (-quarterCos r))⟩
  | 2 => ⟨u32 (sat32 (-quarterCos r)), u32 (sat32 (quarterCos (1024 - r)))⟩
  | _ => ⟨0, 0⟩

/-- The depth of the twiddle ROM, 3*NMAX/4 pairs (10_state.md R49). -/
def twDepth (p : Params) : Nat := 3 * p.nmax / 4

/-- `TW[m] = (C_m, S_m)` (20_memory.md R92 to R94). -/
def twEntry (p : Params) (m : Nat) : Cplx :=
  if p.nmax ≤ 1024 then appendixPair (m * (1024 / p.nmax)) else quarterPair m

/-- Word `w` of the twiddle ROM: word 2m is `C_m`, word 2m+1 is `S_m` (20_memory.md R79). -/
def twWord (p : Params) (w : Nat) : Word :=
  if w % 2 = 0 then (twEntry p (w / 2)).re else (twEntry p (w / 2)).im

/-- `bitrev_b(i)`: the b-bit binary form of i read backwards (00_scope.md R17). -/
def bitrev : Nat → Nat → Nat
  | 0, _ => 0
  | b + 1, i => i % 2 * 2 ^ b + bitrev b (i / 2)

/-- `BR[i] = bitrev_L(i)` with L = log2(NMAX) (20_memory.md R95). -/
def brEntry (p : Params) (i : Nat) : Nat := bitrev (2 * p.log4Nmax) i

end Sys2Proof.Machine
end

