-- ==== Sys2Proof/Machine/Operands.lean ====
section
/-! DEFINITION. What an address of the host port names and what each place reads and stores (10_state.md R32 to R47,
20_memory.md R71 to R82), and the operands a pending command has captured (10_state.md R52). -/

namespace Sys2Proof.Machine

/-- The fourteen registers (10_state.md R32). -/
inductive Reg where
  | id
  | cap
  | ctrl
  | len
  | twmod
  | brfact
  | cmd
  | status
  | irqen
  | opa
  | opb
  | accLo
  | accHi
  | res
deriving DecidableEq, Repr

/-- The register at a word offset (10_state.md R32, 20_memory.md R72). -/
def regAt : Nat → Option Reg
  | 0x000 => some .id
  | 0x004 => some .cap
  | 0x008 => some .ctrl
  | 0x00C => some .len
  | 0x010 => some .twmod
  | 0x014 => some .brfact
  | 0x018 => some .cmd
  | 0x01C => some .status
  | 0x020 => some .irqen
  | 0x024 => some .opa
  | 0x028 => some .opb
  | 0x02C => some .accLo
  | 0x030 => some .accHi
  | 0x034 => some .res
  | _ => none

/-- The window offset of a register (10_state.md R32, 20_memory.md R72). -/
def Reg.offset : Reg → Nat
  | .id => 0x000
  | .cap => 0x004
  | .ctrl => 0x008
  | .len => 0x00C
  | .twmod => 0x010
  | .brfact => 0x014
  | .cmd => 0x018
  | .status => 0x01C
  | .irqen => 0x020
  | .opa => 0x024
  | .opb => 0x028
  | .accLo => 0x02C
  | .accHi => 0x030
  | .res => 0x034

/-- The registers the BUSY guard locks (10_state.md R32, 20_memory.md R81). -/
def Reg.guarded : Reg → Bool
  | .id => false
  | .cap => false
  | .ctrl => true
  | .len => true
  | .twmod => true
  | .brfact => true
  | .cmd => true
  | .status => false
  | .irqen => false
  | .opa => true
  | .opb => true
  | .accLo => true
  | .accHi => true
  | .res => true

/-- A place of the window: a register, a word of the sample RAM, a word of the twiddle ROM, or an entry of the
bit-reversal ROM (20_memory.md R71). -/
inductive Place where
  | reg (r : Reg)
  | ram (w : Nat)
  | tw (w : Nat)
  | br (i : Nat)
deriving DecidableEq, Repr

/-- The first offset of the twiddle ROM window (20_memory.md R71). -/
def twStart : Nat := 0x10000

/-- The first offset of the bit-reversal ROM window (20_memory.md R71). -/
def brStart : Nat := 0x18000

/-- The place at an aligned offset of the window, none where it is unmapped (20_memory.md R71 to R73, R78 to R80). -/
def placeAt (p : Params) (off : Nat) : Option Place :=
  if off < ramStart then (regAt off).map .reg
  else if off < ramStart + 8 * p.nmax then some (.ram ((off - ramStart) / 4))
  else if off < twStart then none
  else if off < twStart + 6 * p.nmax then some (.tw ((off - twStart) / 4))
  else if off < brStart then none
  else if off < brStart + 4 * p.nmax then some (.br ((off - brStart) / 4))
  else none

/-- The BUSY guard's locations (20_memory.md R81). -/
def Place.guarded : Place → Bool
  | .reg r => r.guarded
  | .ram _ => true
  | .tw _ => false
  | .br _ => false

/-- ID's constant, "R4FT" (10_state.md R33). -/
def idWord : Word := 0x52344654

/-- CAP: LOG4_NMAX in bits 3:0, the interface version 1 in bits 7:4, the rest 0 (10_state.md R34). -/
def capWord (p : Params) : Word := BitVec.ofNat 32 (p.log4Nmax + (1 <<< 4))

/-- ACC_LO = ACC[31:0] (10_state.md R46). -/
def accLo (a : AccWord) : Word := a.extractLsb' 0 32

/-- ACC_HI = ACC[63:32] (10_state.md R46). -/
def accHi (a : AccWord) : Word := a.extractLsb' 32 32

/-- The accumulator with the given halves (10_state.md R46). -/
def accOf (hi lo : Word) : AccWord := (hi ++ lo : BitVec (32 + 32))

/-- What a register reads (10_state.md R33 to R47, 20_memory.md R76). CMD has no storage and reads 0 (10_state.md R39). -/
def readReg (r : Reg) (s : State) : Word :=
  match r with
  | .id => idWord
  | .cap => capWord s.params
  | .ctrl => ctrlWord s.ctrl
  | .len => s.len
  | .twmod => s.twmod
  | .brfact => s.brfact
  | .cmd => 0
  | .status => statusWord s.status
  | .irqen => irqenWord s.irqen
  | .opa => s.opa
  | .opb => s.opb
  | .accLo => accLo s.acc
  | .accHi => accHi s.acc
  | .res => s.res

/-- What a host read of a place returns (20_memory.md R76, R78 to R80). -/
def readPlace (l : Place) (s : State) : Word :=
  match l with
  | .reg r => readReg r s
  | .ram w => s.ram.readWord w
  | .tw w => twWord s.params w
  | .br i => BitVec.ofNat 32 (brEntry s.params i)

/-- What a host write to a place stores, none where the place is read-only (20_memory.md R77 to R80). A write to CMD
stores nothing: its word is presented for acceptance (10_state.md R39, Machine/HostPort.lean). -/
def storePlace (l : Place) (v : Word) (s : State) : Option State :=
  match l with
  | .reg .id => none
  | .reg .cap => none
  | .reg .ctrl => some { s with ctrl := ctrlOf v }
  | .reg .len => some { s with len := v }
  | .reg .twmod => some { s with twmod := v }
  | .reg .brfact => some { s with brfact := v }
  | .reg .cmd => some s
  | .reg .status => some (clearWritten v s)
  | .reg .irqen => some { s with irqen := irqenOf v }
  | .reg .opa => some { s with opa := v }
  | .reg .opb => some { s with opb := v }
  | .reg .accLo => some (s.withAcc (accOf (accHi s.acc) v))
  | .reg .accHi => some (s.withAcc (accOf v (accLo s.acc)))
  | .reg .res => none
  | .ram w => some (s.withRam (s.ram.writeWord w v))
  | .tw _ => none
  | .br _ => none

/-- The transform length N a pending command has captured, in complex samples (10_state.md R36, R52). -/
def Pending.length (p : Pending) : Nat := p.n.toNat

/-- The twiddle modifier M a pending command has captured (10_state.md R37, R52). -/
def Pending.twiddleModifier (p : Pending) : Nat := p.m.toNat

/-- The bit-reversal factor F a pending command has captured (10_state.md R38, R52). -/
def Pending.reversalFactor (p : Pending) : Nat := p.f.toNat

end Sys2Proof.Machine
end

