-- ==== Sys2Proof/Machine/Mac.lean ====
section
/-! DEFINITION. The six commands of the Q31 multiplier and accumulator (40_q31_datapath.md R150 to R156). -/

namespace Sys2Proof.Machine

/-- MAC.CLR: `ACC <- 0` (40_q31_datapath.md R150). -/
def execMacClr (s : State) : Outcome := runCommand .macClr (fun _ t => t.withAcc 0) s

/-- MAC.MUL: `ACC <- u64(prod(OPA, OPB))` (40_q31_datapath.md R151). -/
def execMacMul (s : State) : Outcome :=
  runCommand .macMul (fun _ t => t.withAcc (u64 (prod t.opa t.opb))) s

/-- MAC.MLA: `ACC <- u64(wrap64(s64(ACC) + prod(OPA, OPB)))` (40_q31_datapath.md R152). -/
def execMacMla (s : State) : Outcome :=
  runCommand .macMla (fun _ t => t.withAcc (u64 (wrap64 (s64 t.acc + prod t.opa t.opb)))) s

/-- MAC.MLS: `ACC <- u64(wrap64(s64(ACC) - prod(OPA, OPB)))` (40_q31_datapath.md R153). -/
def execMacMls (s : State) : Outcome :=
  runCommand .macMls (fun _ t => t.withAcc (u64 (wrap64 (s64 t.acc - prod t.opa t.opb)))) s

/-- MAC.RDW sh: `RES <- u32(wrap32(sra(s64(ACC), sh)))` (40_q31_datapath.md R154). -/
def execMacRdw (sh : Nat) (s : State) : Outcome :=
  runCommand (.macRdw sh) (fun _ t => t.withRes (u32 (wrap32 (sra (s64 t.acc) sh)))) s

/-- MAC.RDS sh: `RES <- u32(sat32(sra(s64(ACC), sh)))` (40_q31_datapath.md R155). -/
def execMacRds (sh : Nat) (s : State) : Outcome :=
  runCommand (.macRds sh) (fun _ t => t.withRes (u32 (sat32 (sra (s64 t.acc) sh)))) s

end Sys2Proof.Machine
end

