-- ==== Sys2Proof/Machine/BitReversal.lean ====
section
/-! DEFINITION. The bit-reversal permutation unit and its command BITREV (42_bitreversal.md R210 to R215). -/

namespace Sys2Proof.Machine

/-- `(X[i], X[j]) <- (X[j], X[i])` (42_bitreversal.md R211). -/
def swapSamples (r : Ram) (i j : Nat) : Ram := (r.setSample i (r.sample j)).setSample j (r.sample i)

/-- One turn of the walk: swap at the smaller index of a pair (42_bitreversal.md R211). -/
def reversalTurn (p : Params) (f : Nat) (r : Ram) (i : Nat) : Ram :=
  if i < brEntry p (i * f) then swapSamples r i (brEntry p (i * f)) else r

/-- `BITREV_PASS(N, F)` (42_bitreversal.md R211). -/
def runReversal (p : Params) (n f : Nat) (r : Ram) : Ram := (List.range n).foldl (reversalTurn p f) r

/-- The RAM after the bit-reversal pass of a pending command (42_bitreversal.md R210). -/
def reversalOf (p : Pending) (s : State) : State :=
  s.withRam (runReversal s.params p.length p.reversalFactor s.ram)

/-- BITREV (42_bitreversal.md R210). -/
def execBitrev (s : State) : Outcome := runCommand .bitrev reversalOf s

end Sys2Proof.Machine
end

