-- ==== Sys2Proof/Machine/Butterfly.lean ====
section
/-! DEFINITION. The radix-4 butterfly pipeline and its two commands, BFLY.FWD and BFLY.INV (41_butterfly.md R170 to
R192). A pass is a list of stages, and a stage a list of butterflies, run in the order of R170 to R174. -/

namespace Sys2Proof.Machine

/-- The direction of a pass (41_butterfly.md R170). -/
inductive Dir where
  | fwd
  | inv
deriving DecidableEq, Repr

/-- The kind of a butterfly (41_butterfly.md R176). -/
inductive Kind where
  | first
  | middle
  | last
deriving DecidableEq, Repr

/-- The arguments of `BUTTERFLY(kind, dir, i0, n2, k, Ms)`, less the direction (41_butterfly.md R176). -/
structure Bfly where
  kind : Kind
  i0 : Nat
  n2 : Nat
  k : Nat
  ms : Nat
deriving DecidableEq, Repr

/-- Four complex values: a butterfly's inputs or outputs, in the order of its slots `i0 i1 i2 i3`. -/
structure Quad where
  x0 : Cplx
  x1 : Cplx
  x2 : Cplx
  x3 : Cplx
deriving DecidableEq, Repr

/-- The wrapping complex sum. -/
def cadd (x y : Cplx) : Cplx := ⟨add32 x.re y.re, add32 x.im y.im⟩

/-- The wrapping complex difference. -/
def csub (x y : Cplx) : Cplx := ⟨sub32 x.re y.re, sub32 x.im y.im⟩

/-- Both parts shifted right arithmetically. -/
def csra (x : Cplx) (n : Nat) : Cplx := ⟨sra32 x.re n, sra32 x.im n⟩

/-- The first-stage pre-shift by 4 of the eight words read; other stages use them as read (41_butterfly.md R177). -/
def preShift (kind : Kind) (q : Quad) : Quad :=
  match kind with
  | .first => ⟨csra q.x0 4, csra q.x1 4, csra q.x2 4, csra q.x3 4⟩
  | .middle => q
  | .last => q

/-- The four combinations A, P, Q, V of `xa xb xc xd`, in slot order (41_butterfly.md R178 to R180, R182). -/
def combine (dir : Dir) (q : Quad) : Quad :=
  let r1 := add32 q.x0.re q.x2.re
  let r2 := sub32 q.x0.re q.x2.re
  let s1 := add32 q.x0.im q.x2.im
  let s2 := sub32 q.x0.im q.x2.im
  let t1 := add32 q.x1.re q.x3.re
  let t2 := add32 q.x1.im q.x3.im
  let u1 := sub32 q.x1.im q.x3.im
  let u2 := sub32 q.x1.re q.x3.re
  let a : Cplx := ⟨add32 r1 t1, add32 s1 t2⟩
  let p : Cplx := ⟨sub32 r1 t1, sub32 s1 t2⟩
  let down : Cplx := ⟨add32 r2 u1, sub32 s2 u2⟩
  let up : Cplx := ⟨sub32 r2 u1, add32 s2 u2⟩
  match dir with
  | .fwd => ⟨a, p, down, up⟩
  | .inv => ⟨a, p, up, down⟩

/-- `cmac` of the direction (41_butterfly.md R183). -/
def cmac (dir : Dir) (x w : Cplx) : Int × Int :=
  match dir with
  | .fwd => cmacFwd x w
  | .inv => cmacInv x w

/-- A twiddled output: both accumulations reduced by `sh` (41_butterfly.md R183). -/
def twiddled (dir : Dir) (x w : Cplx) (sh : Nat) : Cplx :=
  ⟨reduce (cmac dir x w).1 sh, reduce (cmac dir x w).2 sh⟩

/-- What a butterfly writes, given what it read: P takes W^2k, Q takes W^k and V takes W^3k (41_butterfly.md R177 to
R184). -/
def bflyOut (p : Params) (dir : Dir) (b : Bfly) (read : Quad) : Quad :=
  let c := combine dir (preShift b.kind read)
  let w1 := twEntry p (b.k * b.ms)
  let w2 := twEntry p (2 * b.k * b.ms)
  let w3 := twEntry p (3 * b.k * b.ms)
  match b.kind with
  | .first => ⟨c.x0, twiddled dir c.x1 w2 31, twiddled dir c.x2 w1 31, twiddled dir c.x3 w3 31⟩
  | .middle => ⟨csra c.x0 2, twiddled dir c.x1 w2 33, twiddled dir c.x2 w1 33, twiddled dir c.x3 w3 33⟩
  | .last => c

/-- The four sample indices `i0, i0 + n2, i0 + 2*n2, i0 + 3*n2` (41_butterfly.md R176). -/
def Bfly.index (b : Bfly) (slot : Nat) : Nat := b.i0 + slot * b.n2

/-- The four samples a butterfly reads (41_butterfly.md R176). -/
def readQuad (r : Ram) (b : Bfly) : Quad :=
  ⟨r.sample (b.index 0), r.sample (b.index 1), r.sample (b.index 2), r.sample (b.index 3)⟩

/-- The four samples a butterfly writes, at the indices it read (41_butterfly.md R182). -/
def writeQuad (r : Ram) (b : Bfly) (q : Quad) : Ram :=
  (((r.setSample (b.index 0) q.x0).setSample (b.index 1) q.x1).setSample (b.index 2) q.x2).setSample (b.index 3) q.x3

/-- One butterfly: all eight words are read before any is written (41_butterfly.md R176). -/
def runBfly (p : Params) (dir : Dir) (r : Ram) (b : Bfly) : Ram :=
  writeQuad r b (bflyOut p dir b (readQuad r b))

/-- FIRST_STAGE (41_butterfly.md R172). -/
def firstStage (n m : Nat) : List Bfly :=
  (List.range (n / 4)).map fun j => { kind := .first, i0 := j, n2 := n / 4, k := j, ms := m }

/-- The block starts `j, j + n1, j + 2*n1, ...` below N of a middle stage (41_butterfly.md R173). -/
def blockStarts (n n1 j : Nat) : List Nat := List.range' j ((n - j + n1 - 1) / n1) n1

/-- MIDDLE_STAGE (41_butterfly.md R173). -/
def middleStage (n n1 n2 ms : Nat) : List Bfly :=
  (List.range n2).flatMap fun j =>
    (blockStarts n n1 j).map fun i0 => { kind := .middle, i0 := i0, n2 := n2, k := j, ms := ms }

/-- LAST_STAGE (41_butterfly.md R174). -/
def lastStage (n : Nat) : List Bfly :=
  (List.range (n / 4)).map fun b => { kind := .last, i0 := 4 * b, n2 := 1, k := 0, ms := 0 }

/-- The loop `while len > 4` of 41_butterfly.md R170. `fuel` bounds its turns, for the recursion's sake: `len` is divided
by 4 each turn and is below 2^30 at the start, so 16 turns are never used up (log entry 16). -/
def middleStages : Nat → Nat → Nat → Nat → Nat → List (List Bfly)
  | 0, _, _, _, _ => []
  | fuel + 1, n, n2, ms, len =>
    if 4 < len then middleStage n n2 (n2 / 4) ms :: middleStages fuel n (n2 / 4) (4 * ms) (len / 4)
    else []

/-- The stages of `BFLY(dir, N, M)`, in order (41_butterfly.md R170, R171, R175). -/
def passStages (n m : Nat) : List (List Bfly) :=
  if n = 4 then [lastStage n]
  else firstStage n m :: (middleStages 16 n (n / 4) (4 * m) (n / 4) ++ [lastStage n])

/-- One stage: its butterflies one after another (41_butterfly.md R172 to R174). -/
def runStage (p : Params) (dir : Dir) (r : Ram) (stage : List Bfly) : Ram := stage.foldl (runBfly p dir) r

/-- `BFLY(dir, N, M)` (41_butterfly.md R170). -/
def runPass (p : Params) (dir : Dir) (n m : Nat) (r : Ram) : Ram := (passStages n m).foldl (runStage p dir) r

/-- The RAM after the butterfly pass of a pending command (41_butterfly.md R185, R186). -/
def passOf (dir : Dir) (p : Pending) (s : State) : State :=
  s.withRam (runPass s.params dir p.length p.twiddleModifier s.ram)

/-- BFLY.FWD (41_butterfly.md R185). -/
def execBflyFwd (s : State) : Outcome := runCommand .bflyFwd (passOf .fwd) s

/-- BFLY.INV (41_butterfly.md R186). -/
def execBflyInv (s : State) : Outcome := runCommand .bflyInv (passOf .inv) s

end Sys2Proof.Machine
end

