-- ==== Sys2Proof/Machine/Transform.lean ====
section
/-! DEFINITION. The dispatcher's commands NOP and XFORM (43_dispatcher.md R233 to R235). -/

namespace Sys2Proof.Machine

/-- NOP: nothing beyond the common completion step (43_dispatcher.md R233). -/
def execNop (s : State) : Outcome := runCommand .nop (fun _ t => t) s

/-- The butterfly pass in the captured direction, then the bit-reversal pass if it is asked for (43_dispatcher.md R234). -/
def transformOf (p : Pending) (s : State) : State :=
  let t := passOf (if p.inv then .inv else .fwd) p s
  if p.br then reversalOf p t else t

/-- XFORM (43_dispatcher.md R234). -/
def execXform (s : State) : Outcome := runCommand .xform transformOf s

end Sys2Proof.Machine
end

