-- ==== Sys2Proof/Machine/Dispatch.lean ====
section
/-! DEFINITION. The meaning of every command, one arm each (30_encoding.md R113). -/

namespace Sys2Proof.Machine

/-- What a command does to the machine: its acceptance when nothing is pending, its completion when a record is
(43_dispatcher.md R230, 70_reset_and_hazards.md R303; log entry 9). -/
def exec (i : Instr) (s : State) : Host.Outcome State Fault Refusal :=
  match i with
  | .nop => Sys2Proof.Machine.execNop s
  | .xform => Sys2Proof.Machine.execXform s
  | .bflyFwd => Sys2Proof.Machine.execBflyFwd s
  | .bflyInv => Sys2Proof.Machine.execBflyInv s
  | .bitrev => Sys2Proof.Machine.execBitrev s
  | .macClr => Sys2Proof.Machine.execMacClr s
  | .macMul => Sys2Proof.Machine.execMacMul s
  | .macMla => Sys2Proof.Machine.execMacMla s
  | .macMls => Sys2Proof.Machine.execMacMls s
  | .macRdw sh => Sys2Proof.Machine.execMacRdw sh s
  | .macRds sh => Sys2Proof.Machine.execMacRds sh s

end Sys2Proof.Machine
end

