-- ==== Sys2Proof/Machine/HostPort.lean ====
section
/-! DEFINITION. The host port and the sequencer's turn (20_memory.md R73 to R87, 43_dispatcher.md R230,
70_reset_and_hazards.md R303). -/

namespace Sys2Proof.Machine

/-- A host write of a word to CMD while BUSY = 0: decode it, then reject it or present the command (43_dispatcher.md
R230, R231 step 1; 30_encoding.md R114). -/
def presentWord (w : Word) (s : State) : Outcome :=
  match decode w with
  | .error _ => .next (raiseCmdError .illegalCmd (clearOutcome s))
  | .ok i => exec i s

/-- The window offset of a byte address, none outside BASE .. BASE + 0x1FFFF (20_memory.md R70). -/
def offsetOf (p : Params) (addr : Nat) : Option Nat :=
  if p.base ≤ addr ∧ addr < p.base + windowBytes then some (addr - p.base) else none

/-- The address and the width of a transaction. -/
def Txn.addr : Txn → Nat
  | .read a _ => a
  | .write a _ _ => a

/-- The width of a transaction in bytes. -/
def Txn.bytes : Txn → Nat
  | .read _ n => n
  | .write _ n _ => n

/-- A host read of a place the guard lets through (20_memory.md R76). -/
def readAt (l : Place) (s : State) : Outcome := .next (s.withResponse (.data (readPlace l s)))

/-- A host write to a place the guard lets through: presented if it is CMD, a bus error if the place is read-only,
stored otherwise (20_memory.md R77 to R80). -/
def writeAt (l : Place) (v : Word) (s : State) : Outcome :=
  if l = .reg .cmd then presentWord v (s.withResponse .written)
  else match storePlace l v s with
    | none => .next (raiseBusError s)
    | some t => .next (t.withResponse .written)

/-- The place a transaction may act on, none where it is a bus error whatever it would do there: a width other than 4 or
a misaligned offset (20_memory.md R75), an unmapped offset (R73), a guarded place while BUSY = 1 (R81). -/
def admitted (bytes off : Nat) (s : State) : Option Place :=
  if bytes ≠ 4 ∨ off % 4 ≠ 0 then none
  else match placeAt s.params off with
    | none => none
    | some l => if s.status.busy && l.guarded then none else some l

/-- A host transaction (20_memory.md R74 to R81). -/
def hostAccess (t : Txn) (s : State) : Outcome :=
  match offsetOf s.params t.addr with
  | none => .fault (.outsideWindow t.addr)
  | some off =>
    match admitted t.bytes off s with
    | none => .next (raiseBusError s)
    | some l =>
      match t with
      | .read _ _ => readAt l s
      | .write _ _ v => writeAt l v s

/-- A host transaction arrives: none can be taken while rst_n is asserted (70_reset_and_hazards.md R290; log entry 7). -/
def hostTurn (t : Txn) (s : State) : Outcome :=
  if s.rstN then hostAccess t s else .refused .hostDuringReset

/-- The sequencer's turn: the completion step of the pending command; with nothing pending, or while rst_n holds the
block in reset, there is nothing to do (00_scope.md R11, 70_reset_and_hazards.md R290, R303). -/
def sequencerTurn (s : State) : Outcome :=
  match s.pending with
  | none => .next s
  | some p => if s.rstN then exec p.cmd s else .next s

/-- What an event does. -/
def handle (e : Event) (s : State) : Outcome :=
  match e with
  | .host t => hostTurn t s
  | .sequencer => sequencerTurn s
  | .rstN level => .next (setResetLevel level s)

/-- The event that comes next and what is left: the head of the queue; when the queue is empty, the sequencer's turn, so
that an accepted command always completes (70_reset_and_hazards.md R303; log entry 6). -/
def nextEvent (s : State) : Event × List Event :=
  match s.inputs with
  | [] => (.sequencer, [])
  | e :: es => (e, es)

/-- The host write that presents a word: `MemWrite(BASE + 0x018, 4, w)` (30_encoding.md R118). -/
def cmdWrite (p : Params) (w : Word) : Txn := .write (p.base + Reg.cmd.offset) 4 w

/-- The block idle and out of reset, with the given word about to be written to CMD. -/
def presentNext (w : Word) (s : State) : State :=
  { s with
    rstN := true
    status := { s.status with busy := false }
    pending := none
    inputs := .host (cmdWrite s.params w) :: s.inputs }

end Sys2Proof.Machine
end

