-- ==== Sys2Proof/Machine/Step.lean ====
section
/-! DEFINITION. One step of the machine: the next event is taken and handled (00_scope.md R11). -/

namespace Sys2Proof.Machine

/-- One step: the host, the sequencer or rst_n acts, as `inputs` says (log entry 6). -/
def step (s : State) : Host.Outcome State Fault Refusal :=
  handle (nextEvent s).1 (s.withInputs (nextEvent s).2)

/-- `s` with the instruction whose table bits are `w` about to be written to CMD, the place a command comes from
(30_encoding.md R110; log entry 13). -/
def State.withFetchWord (s : State) (nbits w : Nat) : State := presentNext (tableWord nbits w) s

end Sys2Proof.Machine
end

