-- ==== Sys2Proof/Safety.lean ====
section
/-! DEFINITION. The terms claims are written in: legal lengths, the invariant of every reachable state, the states an
acceptance and a completion leave, and the address map of the host port as the spec's text gives it. -/

namespace Sys2Proof

/-- A legal transform length: a power of 4 from 4 to NMAX (00_scope.md R7). -/
def Params.LegalLength (p : Params) (n : Nat) : Prop := ∃ e, 1 ≤ e ∧ e ≤ p.log4Nmax ∧ n = 4 ^ e

/-- The commands that use LEN (43_dispatcher.md R231). -/
def Instr.UsesLen (i : Instr) : Prop := i = .xform ∨ i = .bflyFwd ∨ i = .bflyInv ∨ i = .bitrev

/-- The commands that run a butterfly pass (43_dispatcher.md R231). -/
def Instr.RunsBfly (i : Instr) : Prop := i = .xform ∨ i = .bflyFwd ∨ i = .bflyInv

/-- The commands that run the bit-reversal pass, given CTRL.BITREV (43_dispatcher.md R231). -/
def Instr.RunsBitrev (i : Instr) (br : Bool) : Prop := i = .bitrev ∨ (i = .xform ∧ br = true)

namespace Machine

/-- The six MAC commands (40_q31_datapath.md part 2). -/
def IsMac (i : Instr) : Prop :=
  i = .macClr ∨ i = .macMul ∨ i = .macMla ∨ i = .macMls ∨ (∃ sh, i = .macRdw sh) ∨ ∃ sh, i = .macRds sh

/-- The block holds no command, is out of reset and is not BUSY. -/
def State.Idle (s : State) : Prop := s.rstN = true ∧ s.status.busy = false ∧ s.pending = none

/-- The state an accepted command leaves: BUSY alone in STATUS, and the descriptor in PENDING (43_dispatcher.md R230). -/
def acceptedState (i : Instr) (s : State) : State :=
  { s with
    status := { busy := true, done := false, err := false, errcode := 0 }
    pending := some { cmd := i, n := s.len, m := s.twmod, f := s.brfact, inv := s.ctrl.inv, br := s.ctrl.bitrev } }

/-- The state a rejected command leaves: ERR and the code alone in STATUS (60_exceptions.md R252). -/
def rejectedState (code : BitVec 4) (s : State) : State :=
  { s with status := { busy := false, done := false, err := true, errcode := code } }

/-- What the completion of a command does beside its effect: BUSY <- 0, DONE <- 1, PENDING <- none
(70_reset_and_hazards.md R303). -/
def completedState (s : State) : State :=
  { s with
    status := { busy := false, done := true, err := s.status.err, errcode := s.status.errcode }
    pending := none }

/-- What holds in every reachable state. -/
structure State.Inv (s : State) : Prop where
  /-- PENDING is not none exactly when BUSY = 1 (10_state.md R52). -/
  busy_iff : s.status.busy = s.pending.isSome
  /-- While a command is pending its acceptance's clearing stands (43_dispatcher.md R230). -/
  busy_clear : s.status.busy = true → s.status.done = false ∧ s.status.err = false
  /-- At most one interrupt source is pending (60_exceptions.md R261). -/
  one_source : ¬(s.status.done = true ∧ s.status.err = true)
  /-- ERR = 0 exactly when ERRCODE = 0 (10_state.md R43, 60_exceptions.md R251). -/
  code_iff : s.status.err = false ↔ s.status.errcode = 0
  /-- The reserved error codes are never produced (60_exceptions.md R251). -/
  code_le : s.status.errcode.toNat ≤ 4
  /-- PENDING equals the register values, and they passed validation (10_state.md R52, 43_dispatcher.md R231). -/
  captured : ∀ p, s.pending = some p →
    p = pendingOf p.cmd s ∧ check p.cmd s = none ∧ p.cmd.wellFormed = true
  /-- The RAM's memory has its canonical form (log entry 4). -/
  canonical : Memory.wf s.ram.cells
  /-- Only bytes of the sample RAM are listed (10_state.md R48, 20_memory.md R71). -/
  in_ram : ∀ c ∈ s.ram.cells, ramStart ≤ c.1 ∧ c.1 < ramStart + 8 * s.params.nmax
  /-- While rst_n is asserted the block is held in the reset state (70_reset_and_hazards.md R290). -/
  held : s.rstN = false → s = State.resetWith s.params s.ram.era false s.inputs s.response

/-! ## The address map, in the numbers of the spec's text -/

/-- An offset inside the mapped part of a region (20_memory.md R71, R72). -/
def MappedOffset (p : Params) (off : Nat) : Prop :=
  off < 0x38 ∨ (0x8000 ≤ off ∧ off < 0x8000 + 8 * p.nmax) ∨
    (0x10000 ≤ off ∧ off < 0x10000 + 6 * p.nmax) ∨ (0x18000 ≤ off ∧ off < 0x18000 + 4 * p.nmax)

/-- A guarded location: CTRL, LEN, TWMOD, BRFACT, CMD, OPA, OPB, ACC_LO, ACC_HI, RES and the sample RAM window
(20_memory.md R81). -/
def GuardedOffset (p : Params) (off : Nat) : Prop :=
  off ∈ [0x008, 0x00C, 0x010, 0x014, 0x018, 0x024, 0x028, 0x02C, 0x030, 0x034] ∨
    (0x8000 ≤ off ∧ off < 0x8000 + 8 * p.nmax)

/-- A read-only location: ID, CAP, RES and the ROM windows (20_memory.md R77, R79, R80). -/
def ReadOnlyOffset (p : Params) (off : Nat) : Prop :=
  off ∈ [0x000, 0x004, 0x034] ∨
    (0x10000 ≤ off ∧ off < 0x10000 + 6 * p.nmax) ∨ (0x18000 ≤ off ∧ off < 0x18000 + 4 * p.nmax)

/-- A transaction writes. -/
def Txn.IsWrite : Txn → Prop
  | .read _ _ => False
  | .write _ _ _ => True

/-- The causes of a bus error (60_exceptions.md R257). -/
def BusErrorCause (s : State) (t : Txn) (off : Nat) : Prop :=
  (t.bytes ≠ 4 ∨ off % 4 ≠ 0) ∨ ¬MappedOffset s.params off ∨ (t.IsWrite ∧ ReadOnlyOffset s.params off) ∨
    (GuardedOffset s.params off ∧ s.status.busy = true)

/-- `MemWrite(BASE + off, 4, v)` as the next event (00_scope.md R14). -/
def hostWrite (p : Params) (off : Nat) (v : Word) : Event := .host (.write (p.base + off) 4 v)

/-- `MemRead(BASE + off, 4)` as the next event (00_scope.md R14). -/
def hostRead (p : Params) (off : Nat) : Event := .host (.read (p.base + off) 4)

/-! ## The twiddle ROM over the reals -/

/-- The nearest integer, ties away from zero (20_memory.md R93). -/
noncomputable def roundHalfAway (v : ℝ) : Int := if 0 ≤ v then ⌊v + 1 / 2⌋ else ⌈v - 1 / 2⌉

/-- `q31(v) = sat32(round_half_away(v * 2^31))` (20_memory.md R93). -/
noncomputable def q31 (v : ℝ) : Int := sat32 (roundHalfAway (v * 2 ^ 31))

end Machine

end Sys2Proof
end

