-- ==== Sys2Proof/Certificates/Slice0/Obligations.lean ====
section
/-! DEFINITION. The statements for the provers: what spec/'s numbered rules say this machine does. -/

open Sys2Proof Sys2Proof.Machine

/-! ## Encoding -/

/-- 30_encoding.md R113, R117: decoding the word of a well-formed command gives the command back, SH and all. -/
def Obligations.DecodeOfEncodeIsIdentity : Prop :=
  ∀ i : Instr, i.wellFormed = true → decode (encode i) = .ok i

/-- 30_encoding.md R114: a word that decodes is the encoding of its command, so no two words decode alike. -/
def Obligations.EncodeOfDecodeIsIdentity : Prop :=
  ∀ (w : Word) (i : Instr), decode w = .ok i → encode i = w ∧ i.wellFormed = true

/-- 30_encoding.md R113: the opcode map. Each command has the words of its row's match and mask, SH being the operand of the
two that use it; a word is legal exactly when `(w and mask) = match` for one row, and the rows do not overlap. -/
def Obligations.LegalWordsAreTheOpcodeMap : Prop :=
  (∀ w : Word,
    (decode w = .ok .nop ↔ w &&& 0xFFFFFFFF = 0x00000000) ∧ (decode w = .ok .xform ↔ w &&& 0xFFFFFFFF = 0x00000001) ∧
    (decode w = .ok .bflyFwd ↔ w &&& 0xFFFFFFFF = 0x00000002) ∧
    (decode w = .ok .bflyInv ↔ w &&& 0xFFFFFFFF = 0x00000003) ∧
    (decode w = .ok .bitrev ↔ w &&& 0xFFFFFFFF = 0x00000004) ∧
    (decode w = .ok .macClr ↔ w &&& 0xFFFFFFFF = 0x00000010) ∧
    (decode w = .ok .macMul ↔ w &&& 0xFFFFFFFF = 0x00000011) ∧
    (decode w = .ok .macMla ↔ w &&& 0xFFFFFFFF = 0x00000012) ∧
    (decode w = .ok .macMls ↔ w &&& 0xFFFFFFFF = 0x00000013) ∧
    (∀ sh, decode w = .ok (.macRdw sh) ↔ w &&& 0xFFFFC0FF = 0x00000014 ∧ sh = (w.extractLsb' 8 6).toNat) ∧
    (∀ sh, decode w = .ok (.macRds sh) ↔ w &&& 0xFFFFC0FF = 0x00000015 ∧ sh = (w.extractLsb' 8 6).toNat)) ∧
  (∀ w : Word, (∃ i, decode w = .ok i) ↔ ∃ r ∈ opcodeRows, w &&& r.mask = r.pattern) ∧
  (∀ (w : Word) (r r' : OpcodeRow), r ∈ opcodeRows → r' ∈ opcodeRows →
    w &&& r.mask = r.pattern → w &&& r'.mask = r'.pattern → r = r')

/-- 30_encoding.md R113, R117: words written out from the spec's encoding, one for each family. -/
def Obligations.DecodeReadsSampleWords : Prop :=
  decode 0x00000000 = .ok .nop ∧ decode 0x00000001 = .ok .xform ∧ decode 0x00000002 = .ok .bflyFwd ∧
  decode 0x00000004 = .ok .bitrev ∧ decode 0x00000011 = .ok .macMul ∧
  decode 0x00001F15 = .ok (.macRds 31) ∧ decode 0x00000014 = .ok (.macRdw 0) ∧
  decode 0x00003F14 = .ok (.macRdw 63)

/-- 30_encoding.md R115: a reserved opcode, a nonzero RSV0 or RSV1, or a nonzero SH with an opcode that has none: the word,
written to CMD of the idle block, is rejected with ILLEGAL_CMD and changes nothing but STATUS. -/
def Obligations.ReservedWordsRejected : Prop :=
  ∀ (s : State) (w : Word) (rest : List Event), s.Idle → s.inputs = hostWrite s.params 0x018 w :: rest →
    ((0x05 ≤ (w.extractLsb' 0 5).toNat ∧ (w.extractLsb' 0 5).toNat ≤ 0x0F) ∨ 0x16 ≤ (w.extractLsb' 0 5).toNat ∨
      w.extractLsb' 5 3 ≠ 0 ∨ w.extractLsb' 14 18 ≠ 0 ∨
      (w.extractLsb' 8 6 ≠ 0 ∧ w.extractLsb' 0 5 ≠ 0x14 ∧ w.extractLsb' 0 5 ≠ 0x15)) →
    step s = .next (rejectedState 1 { s with inputs := rest, response := some .written })

/-! ## A step -/

/-- 43_dispatcher.md R230: a CMD write while BUSY = 0 presents the decoded command: the step is the command's meaning, after
the event is taken off the queue and the write is answered. -/
def Obligations.StepPresentsDecodedCommand : Prop :=
  ∀ (s : State) (w : Word) (i : Instr) (rest : List Event), s.rstN = true → s.status.busy = false →
    s.inputs = hostWrite s.params 0x018 w :: rest → decode w = .ok i →
    step s = exec i { s with inputs := rest, response := some .written }

/-- 70_reset_and_hazards.md R303: the sequencer's turn is the meaning of the pending command; it is the sequencer's turn when
the queue says so, and when the queue is empty (the second is the model's choice, log entry 6). -/
def Obligations.StepCompletesPendingCommand : Prop :=
  ∀ (s : State) (p : Pending), s.rstN = true → s.pending = some p →
    (∀ rest, s.inputs = .sequencer :: rest → step s = exec p.cmd { s with inputs := rest }) ∧
    (s.inputs = [] → step s = exec p.cmd s)

/-- 70_reset_and_hazards.md R294, R304: the idle block only waits; the sequencer then changes nothing. -/
def Obligations.IdleBlockWaits : Prop :=
  ∀ s : State, s.pending = none →
    (s.inputs = [] → step s = .next s) ∧
    (∀ rest, s.inputs = .sequencer :: rest → step s = .next { s with inputs := rest })

/-! ## Acceptance and completion -/

/-- 43_dispatcher.md R230, R231: a command that passes every check it is subject to is accepted: BUSY alone stands in STATUS,
PENDING holds the command and the descriptor, and nothing else changes. -/
def Obligations.AcceptedCommandCapturesDescriptor : Prop :=
  ∀ (i : Instr) (s : State), s.pending = none →
    (i.UsesLen → s.params.LegalLength s.len.toNat) →
    (i.RunsBfly → s.twmod.toNat * s.len.toNat = s.params.nmax) →
    (i.RunsBitrev s.ctrl.bitrev → s.brfact.toNat * s.len.toNat = s.params.nmax) →
    exec i s = .next (acceptedState i s)

/-- 43_dispatcher.md R231, 60_exceptions.md R252, R253: the first check that fails, in the order BAD_LEN, BAD_TWMOD,
BAD_BRFACT, is reported, and nothing but STATUS changes. -/
def Obligations.RejectedCommandReportsFirstFailure : Prop :=
  ∀ (i : Instr) (s : State), s.pending = none → s.status.busy = false →
    (i.UsesLen → ¬s.params.LegalLength s.len.toNat → exec i s = .next (rejectedState 2 s)) ∧
    (i.RunsBfly → s.params.LegalLength s.len.toNat → s.twmod.toNat * s.len.toNat ≠ s.params.nmax →
      exec i s = .next (rejectedState 3 s)) ∧
    (i.RunsBitrev s.ctrl.bitrev → s.params.LegalLength s.len.toNat →
      (i.RunsBfly → s.twmod.toNat * s.len.toNat = s.params.nmax) →
      s.brfact.toNat * s.len.toNat ≠ s.params.nmax → exec i s = .next (rejectedState 4 s))

/-- 60_exceptions.md R250, 70_reset_and_hazards.md R303: "A command that is accepted always completes, and its completion
cannot fail": for every command, with BUSY cleared, DONE set, PENDING none, no error, and no register but ACC and RES, and
no memory but the RAM, changed. -/
def Obligations.CompletionNeverFails : Prop :=
  ∀ (i : Instr) (s : State) (p : Pending), s.pending = some p →
    ∃ (a : AccWord) (v : Word) (r : Ram), r.era = s.ram.era ∧
      exec i s = .next { completedState s with acc := a, res := v, ram := r }

/-! ## NOP and the MAC commands -/

/-- 43_dispatcher.md R233: NOP is the word 0, is never rejected, and does nothing beyond the common completion step. -/
def Obligations.NopOnlyCompletes : Prop :=
  encode .nop = 0x00000000 ∧ (∀ s : State, s.pending = none → exec .nop s = .next (acceptedState .nop s)) ∧
  ∀ (s : State) (p : Pending), s.pending = some p → exec .nop s = .next (completedState s)

/-- 40_q31_datapath.md R150: MAC.CLR is the word 0x10, is never rejected, and clears ACC alone. -/
def Obligations.MacClrClearsAccumulator : Prop :=
  encode .macClr = 0x00000010 ∧ (∀ s : State, s.pending = none → exec .macClr s = .next (acceptedState .macClr s)) ∧
  ∀ (s : State) (p : Pending), s.pending = some p → exec .macClr s = .next { completedState s with acc := 0 }

/-- 40_q31_datapath.md R151: MAC.MUL is the word 0x11, is never rejected, and leaves the exact product in ACC alone. -/
def Obligations.MacMulStoresExactProduct : Prop :=
  encode .macMul = 0x00000011 ∧ (∀ s : State, s.pending = none → exec .macMul s = .next (acceptedState .macMul s)) ∧
  ∀ (s : State) (p : Pending), s.pending = some p →
    ∃ a : AccWord, a.toInt = s.opa.toInt * s.opb.toInt ∧ exec .macMul s = .next { completedState s with acc := a }

/-- 40_q31_datapath.md R152: MAC.MLA is the word 0x12, is never rejected, and adds the product to ACC, wrapping at 64 bits. -/
def Obligations.MacMlaAddsProduct : Prop :=
  encode .macMla = 0x00000012 ∧ (∀ s : State, s.pending = none → exec .macMla s = .next (acceptedState .macMla s)) ∧
  ∀ (s : State) (p : Pending), s.pending = some p →
    ∃ a : AccWord, a.toInt = (s.acc.toInt + s.opa.toInt * s.opb.toInt).bmod (2 ^ 64) ∧
      exec .macMla s = .next { completedState s with acc := a }

/-- 40_q31_datapath.md R153: MAC.MLS is the word 0x13, is never rejected, and subtracts the product from ACC, wrapping at 64
bits. -/
def Obligations.MacMlsSubtractsProduct : Prop :=
  encode .macMls = 0x00000013 ∧ (∀ s : State, s.pending = none → exec .macMls s = .next (acceptedState .macMls s)) ∧
  ∀ (s : State) (p : Pending), s.pending = some p →
    ∃ a : AccWord, a.toInt = (s.acc.toInt - s.opa.toInt * s.opb.toInt).bmod (2 ^ 64) ∧
      exec .macMls s = .next { completedState s with acc := a }

/-- 40_q31_datapath.md R154: MAC.RDW sh has the word 0x14 + (sh << 8), is never rejected, and leaves in RES the floor of
ACC / 2^sh, wrapped to 32 bits; ACC is not changed. -/
def Obligations.MacRdwReadsWrapped : Prop :=
  (∀ sh < 64, (encode (.macRdw sh)).toNat = 0x14 + sh * 256) ∧
  (∀ (sh : Nat) (s : State), s.pending = none → exec (.macRdw sh) s = .next (acceptedState (.macRdw sh) s)) ∧
  ∀ (sh : Nat) (s : State) (p : Pending), s.pending = some p →
    ∃ v : Word, v.toInt = (⌊(s.acc.toInt : ℚ) / 2 ^ sh⌋).bmod (2 ^ 32) ∧
      exec (.macRdw sh) s = .next { completedState s with res := v }

/-- 40_q31_datapath.md R155: MAC.RDS sh has the word 0x15 + (sh << 8), is never rejected, and leaves in RES the floor of
ACC / 2^sh, clamped to 32 bits; ACC is not changed. -/
def Obligations.MacRdsReadsSaturated : Prop :=
  (∀ sh < 64, (encode (.macRds sh)).toNat = 0x15 + sh * 256) ∧
  (∀ (sh : Nat) (s : State), s.pending = none → exec (.macRds sh) s = .next (acceptedState (.macRds sh) s)) ∧
  ∀ (sh : Nat) (s : State) (p : Pending), s.pending = some p →
    ∃ v : Word, v.toInt = max (-2 ^ 31) (min (2 ^ 31 - 1) ⌊(s.acc.toInt : ℚ) / 2 ^ sh⌋) ∧
      exec (.macRds sh) s = .next { completedState s with res := v }

/-- 40_q31_datapath.md R157: MAC.MUL then MAC.RDS 31 leaves in RES the saturating Q31 product, clamped only for
0x8000_0000 * 0x8000_0000, where it is 0x7FFF_FFFF; MAC.MUL then MAC.RDW 31 leaves the same but for that input, where it is
0x8000_0000. -/
def Obligations.MulThenReadIsQ31Product : Prop :=
  ∀ s : State, s.pending = none → ∃ s₁ s₂ s₃ t s₄ u,
    exec .macMul s = .next s₁ ∧ exec .macMul s₁ = .next s₂ ∧
    exec (.macRds 31) s₂ = .next s₃ ∧ exec (.macRds 31) s₃ = .next t ∧
    exec (.macRdw 31) s₂ = .next s₄ ∧ exec (.macRdw 31) s₄ = .next u ∧
    (if s.opa = 0x80000000 ∧ s.opb = 0x80000000 then t.res = 0x7FFFFFFF ∧ u.res = 0x80000000
     else t.res.toInt = ⌊((s.opa.toInt * s.opb.toInt : Int) : ℚ) / 2 ^ 31⌋ ∧ u.res = t.res)

/-- 40_q31_datapath.md R156: no MAC command reads or writes the RAM, CTRL, LEN, TWMOD or BRFACT: whatever they hold, they
are left as they are and the rest of the outcome is the same. -/
def Obligations.MacCommandsIgnoreTransformState : Prop :=
  ∀ (i : Instr) (s : State) (p : Pending), IsMac i → s.pending = some p →
    ∃ t, exec i s = .next t ∧ t.ram = s.ram ∧ t.ctrl = s.ctrl ∧ t.len = s.len ∧ t.twmod = s.twmod ∧
      t.brfact = s.brfact ∧
      ∀ (r : Ram) (c : Ctrl) (l m f : Word),
        exec i { s with ram := r, ctrl := c, len := l, twmod := m, brfact := f } =
          .next { t with ram := r, ctrl := c, len := l, twmod := m, brfact := f }

/-- 40_q31_datapath.md R156: no butterfly, bit-reversal or XFORM command reads or writes OPA, OPB, ACC or RES. -/
def Obligations.TransformCommandsIgnoreMacState : Prop :=
  ∀ (i : Instr) (s : State) (p : Pending), i.UsesLen → s.pending = some p →
    ∃ t, exec i s = .next t ∧ t.opa = s.opa ∧ t.opb = s.opb ∧ t.acc = s.acc ∧ t.res = s.res ∧
      ∀ (a b v : Word) (c : AccWord),
        exec i { s with opa := a, opb := b, acc := c, res := v } =
          .next { t with opa := a, opb := b, acc := c, res := v }

/-! ## The butterfly pass -/

/-- 41_butterfly.md R192: a pass of length N completes and reads and writes only RAM[0 .. 2N-1]: no other byte of memory and
no register but STATUS changes, and what it leaves there depends on nothing else in the RAM. -/
def Obligations.ButterflyPassStaysInBuffer : Prop :=
  ∀ (i : Instr) (s : State) (p : Pending), (i = .bflyFwd ∨ i = .bflyInv) → s.pending = some p →
    s.params.LegalLength p.n.toNat →
    ∃ r : Ram, exec i s = .next { completedState s with ram := r } ∧ r.era = s.ram.era ∧
      (∀ a, (a < 0x8000 ∨ 0x8000 + 8 * p.n.toNat ≤ a) → r.readByte a = s.ram.readByte a) ∧
      ∀ r₁ : Ram, (∀ w < 2 * p.n.toNat, r₁.readWord w = s.ram.readWord w) →
        ∃ r₂ : Ram, exec i { s with ram := r₁ } = .next { completedState s with ram := r₂ } ∧
          ∀ w < 2 * p.n.toNat, r₂.readWord w = r.readWord w

/-- 41_butterfly.md R170, R185, R186: at completion BFLY.FWD and BFLY.INV run the stages of the captured length and modifier,
in order, each butterfly after the one before it, in their own direction, whatever CTRL holds. -/
def Obligations.ButterflyCommandsRunTheirStages : Prop :=
  ∀ (s : State) (p : Pending) (stages : List (List Bfly)), s.pending = some p →
    stages = passStages p.n.toNat p.m.toNat →
    exec .bflyFwd s = .next { completedState s with ram := stages.flatten.foldl (runBfly s.params .fwd) s.ram } ∧
    exec .bflyInv s = .next { completedState s with ram := stages.flatten.foldl (runBfly s.params .inv) s.ram }

/-- 41_butterfly.md R171, R172 to R174: a pass of length 4^e runs e stages: only the last for e = 1, else one first, e - 2
middle and one last; every stage has N/4 butterflies. Stage k has quarter N / 4^(k+1), which is 1 in the last; before the
last its modifier is M * 4^k, which is NMAX / N * 4^k, and a butterfly's twiddle exponent is its place in its quarter. -/
def Obligations.PassHasLog4Stages : Prop :=
  ∀ (p : Params) (n m e : Nat), 1 ≤ e → e ≤ p.log4Nmax → n = 4 ^ e →
    (passStages n m).length = e ∧
    ∀ (k : Nat) (stage : List Bfly), (passStages n m)[k]? = some stage →
      stage.length = n / 4 ∧
      ∀ b ∈ stage,
        (b.kind = if k + 1 = e then .last else if k = 0 then .first else .middle) ∧
        (k < e → b.n2 = n / 4 ^ (k + 1)) ∧
        (k + 1 < e → b.ms = m * 4 ^ k ∧ (m * n = p.nmax → b.ms = p.nmax / n * 4 ^ k) ∧ b.k = b.i0 % b.n2)

/-- 41_butterfly.md R190: in stage k, with quarter N / 4^(k+1) and modifier (NMAX/N) * 4^k, the largest twiddle index used is
3 * (N / 4^(k+1) - 1) * modifier = 3 * (NMAX/4 - 4^k * NMAX/N), which is at most 3*NMAX/4 - 3, below the ROM's depth; the
smallest is 0. -/
def Obligations.TwiddleIndicesStayInRom : Prop :=
  ∀ (p : Params) (n m e k : Nat) (stage : List Bfly), 1 ≤ e → e ≤ p.log4Nmax → n = 4 ^ e → m * n = p.nmax →
    k + 1 < e → (passStages n m)[k]? = some stage →
      ∀ top : Nat, top = 3 * (n / 4 ^ (k + 1) - 1) * (p.nmax / n * 4 ^ k) →
        top = 3 * (p.nmax / 4 - 4 ^ k * (p.nmax / n)) ∧ top ≤ 3 * p.nmax / 4 - 3 ∧ top < twDepth p ∧
        (∀ b ∈ stage, ∀ index ∈ [b.k * b.ms, 2 * b.k * b.ms, 3 * b.k * b.ms], index ≤ top) ∧
        (∃ b ∈ stage, 3 * b.k * b.ms = top) ∧ ∃ b ∈ stage, b.k * b.ms = 0

/-- 41_butterfly.md R187, R172 to R174, R176: the butterflies of one stage cover the samples below N, each sample in exactly
one slot of exactly one butterfly. -/
def Obligations.StageTouchesEachSampleOnce : Prop :=
  ∀ (p : Params) (n m : Nat) (stage : List Bfly), p.LegalLength n → stage ∈ passStages n m →
    (∀ b ∈ stage, ∀ slot < 4, b.index slot < n) ∧
    ∀ i < n, ∃! bs : Bfly × Nat, bs.1 ∈ stage ∧ bs.2 < 4 ∧ bs.1.index bs.2 = i

/-- 41_butterfly.md R187, R176: a stage, though run in place one butterfly after another, acts as if every butterfly read the
RAM as the stage found it. -/
def Obligations.StageActsInParallel : Prop :=
  ∀ (p : Params) (d : Dir) (n m : Nat) (r : Ram) (stage : List Bfly), p.LegalLength n → stage ∈ passStages n m →
    (∀ b ∈ stage, readQuad (runStage p d r stage) b = bflyOut p d b (readQuad r b)) ∧
    ∀ i, n ≤ i → (runStage p d r stage).sample i = r.sample i

/-- 41_butterfly.md R187: "The order in which a stage performs its butterflies therefore does not affect the result." -/
def Obligations.StageOrderDoesNotMatter : Prop :=
  ∀ (p : Params) (d : Dir) (n m : Nat) (r : Ram) (stage stage' : List Bfly), p.LegalLength n →
    stage ∈ passStages n m → stage'.Perm stage → Memory.wf r.cells →
    runStage p d r stage' = runStage p d r stage

/-- 41_butterfly.md R177, R178 to R183: what a first-stage butterfly writes, in exact integers: the inputs divided by 16 and
rounded down, the four combinations, and the twiddle products divided by 2^31 and rounded down. For INV the twiddle is
conjugated and the cross terms are exchanged (R180). -/
def Obligations.FirstButterflyFormula : Prop :=
  ∀ (p : Params) (b : Bfly) (q : Quad), b.kind = .first →
    ∀ (xa ya xb yb xc yc xd yd : Int),
      xa = ⌊(q.x0.re.toInt : ℚ) / 16⌋ → ya = ⌊(q.x0.im.toInt : ℚ) / 16⌋ →
      xb = ⌊(q.x1.re.toInt : ℚ) / 16⌋ → yb = ⌊(q.x1.im.toInt : ℚ) / 16⌋ →
      xc = ⌊(q.x2.re.toInt : ℚ) / 16⌋ → yc = ⌊(q.x2.im.toInt : ℚ) / 16⌋ →
      xd = ⌊(q.x3.re.toInt : ℚ) / 16⌋ → yd = ⌊(q.x3.im.toInt : ℚ) / 16⌋ →
      (∀ d, (bflyOut p d b q).x0.re.toInt = xa + xb + xc + xd ∧ (bflyOut p d b q).x0.im.toInt = ya + yb + yc + yd) ∧
      (∀ (pr pi c s : Int), pr = xa - xb + xc - xd → pi = ya - yb + yc - yd →
        c = (twEntry p (2 * b.k * b.ms)).re.toInt → s = (twEntry p (2 * b.k * b.ms)).im.toInt →
        (bflyOut p .fwd b q).x1 = ⟨BitVec.ofInt 32 ⌊((pr * c - pi * s : Int) : ℚ) / 2 ^ 31⌋,
          BitVec.ofInt 32 ⌊((pr * s + pi * c : Int) : ℚ) / 2 ^ 31⌋⟩ ∧
        (bflyOut p .inv b q).x1 = ⟨BitVec.ofInt 32 ⌊((pr * c + pi * s : Int) : ℚ) / 2 ^ 31⌋,
          BitVec.ofInt 32 ⌊((pi * c - pr * s : Int) : ℚ) / 2 ^ 31⌋⟩) ∧
      (∀ (qr qi vr vi c s c₃ s₃ : Int), qr = xa + yb - xc - yd → qi = ya - xb - yc + xd →
        vr = xa - yb - xc + yd → vi = ya + xb - yc - xd →
        c = (twEntry p (b.k * b.ms)).re.toInt → s = (twEntry p (b.k * b.ms)).im.toInt →
        c₃ = (twEntry p (3 * b.k * b.ms)).re.toInt → s₃ = (twEntry p (3 * b.k * b.ms)).im.toInt →
        (bflyOut p .fwd b q).x2 = ⟨BitVec.ofInt 32 ⌊((qr * c - qi * s : Int) : ℚ) / 2 ^ 31⌋,
          BitVec.ofInt 32 ⌊((qr * s + qi * c : Int) : ℚ) / 2 ^ 31⌋⟩ ∧
        (bflyOut p .fwd b q).x3 = ⟨BitVec.ofInt 32 ⌊((vr * c₃ - vi * s₃ : Int) : ℚ) / 2 ^ 31⌋,
          BitVec.ofInt 32 ⌊((vr * s₃ + vi * c₃ : Int) : ℚ) / 2 ^ 31⌋⟩ ∧
        (bflyOut p .inv b q).x2 = ⟨BitVec.ofInt 32 ⌊((vr * c + vi * s : Int) : ℚ) / 2 ^ 31⌋,
          BitVec.ofInt 32 ⌊((vi * c - vr * s : Int) : ℚ) / 2 ^ 31⌋⟩ ∧
        (bflyOut p .inv b q).x3 = ⟨BitVec.ofInt 32 ⌊((qr * c₃ + qi * s₃ : Int) : ℚ) / 2 ^ 31⌋,
          BitVec.ofInt 32 ⌊((qi * c₃ - qr * s₃ : Int) : ℚ) / 2 ^ 31⌋⟩)

/-- 41_butterfly.md R178 to R183: what a middle-stage butterfly writes: the plain sum, wrapped, then divided by 4 and rounded
down; the other combinations, wrapped to 32 bits, times their twiddles, divided by 2^33 and rounded down. -/
def Obligations.MiddleButterflyFormula : Prop :=
  ∀ (p : Params) (b : Bfly) (q : Quad), b.kind = .middle →
    ∀ (pr pi qr qi vr vi : Int),
      pr = (q.x0.re - q.x1.re + q.x2.re - q.x3.re).toInt → pi = (q.x0.im - q.x1.im + q.x2.im - q.x3.im).toInt →
      qr = (q.x0.re + q.x1.im - q.x2.re - q.x3.im).toInt → qi = (q.x0.im - q.x1.re - q.x2.im + q.x3.re).toInt →
      vr = (q.x0.re - q.x1.im - q.x2.re + q.x3.im).toInt → vi = (q.x0.im + q.x1.re - q.x2.im - q.x3.re).toInt →
      (∀ d, (bflyOut p d b q).x0.re.toInt = ⌊((q.x0.re + q.x1.re + q.x2.re + q.x3.re).toInt : ℚ) / 4⌋ ∧
        (bflyOut p d b q).x0.im.toInt = ⌊((q.x0.im + q.x1.im + q.x2.im + q.x3.im).toInt : ℚ) / 4⌋) ∧
      ∀ (c₁ s₁ c₂ s₂ c₃ s₃ : Int),
        c₁ = (twEntry p (b.k * b.ms)).re.toInt → s₁ = (twEntry p (b.k * b.ms)).im.toInt →
        c₂ = (twEntry p (2 * b.k * b.ms)).re.toInt → s₂ = (twEntry p (2 * b.k * b.ms)).im.toInt →
        c₃ = (twEntry p (3 * b.k * b.ms)).re.toInt → s₃ = (twEntry p (3 * b.k * b.ms)).im.toInt →
        (bflyOut p .fwd b q).x1 = ⟨BitVec.ofInt 32 ⌊((pr * c₂ - pi * s₂ : Int) : ℚ) / 2 ^ 33⌋,
          BitVec.ofInt 32 ⌊((pr * s₂ + pi * c₂ : Int) : ℚ) / 2 ^ 33⌋⟩ ∧
        (bflyOut p .fwd b q).x2 = ⟨BitVec.ofInt 32 ⌊((qr * c₁ - qi * s₁ : Int) : ℚ) / 2 ^ 33⌋,
          BitVec.ofInt 32 ⌊((qr * s₁ + qi * c₁ : Int) : ℚ) / 2 ^ 33⌋⟩ ∧
        (bflyOut p .fwd b q).x3 = ⟨BitVec.ofInt 32 ⌊((vr * c₃ - vi * s₃ : Int) : ℚ) / 2 ^ 33⌋,
          BitVec.ofInt 32 ⌊((vr * s₃ + vi * c₃ : Int) : ℚ) / 2 ^ 33⌋⟩ ∧
        (bflyOut p .inv b q).x1 = ⟨BitVec.ofInt 32 ⌊((pr * c₂ + pi * s₂ : Int) : ℚ) / 2 ^ 33⌋,
          BitVec.ofInt 32 ⌊((pi * c₂ - pr * s₂ : Int) : ℚ) / 2 ^ 33⌋⟩ ∧
        (bflyOut p .inv b q).x2 = ⟨BitVec.ofInt 32 ⌊((vr * c₁ + vi * s₁ : Int) : ℚ) / 2 ^ 33⌋,
          BitVec.ofInt 32 ⌊((vi * c₁ - vr * s₁ : Int) : ℚ) / 2 ^ 33⌋⟩ ∧
        (bflyOut p .inv b q).x3 = ⟨BitVec.ofInt 32 ⌊((qr * c₃ + qi * s₃ : Int) : ℚ) / 2 ^ 33⌋,
          BitVec.ofInt 32 ⌊((qi * c₃ - qr * s₃ : Int) : ℚ) / 2 ^ 33⌋⟩

/-- 41_butterfly.md R184, R177 to R182: what a LAST butterfly writes, in a pass of any length: the four combinations of the
values as read, with no shift and no multiply, wrapped at 32 bits; the two cross terms are exchanged for INV. -/
def Obligations.LastButterflyFormula : Prop :=
  ∀ (p : Params) (b : Bfly) (q : Quad), b.kind = .last →
    ∀ down up : Cplx,
      down = ⟨q.x0.re + q.x1.im - q.x2.re - q.x3.im, q.x0.im - q.x1.re - q.x2.im + q.x3.re⟩ →
      up = ⟨q.x0.re - q.x1.im - q.x2.re + q.x3.im, q.x0.im + q.x1.re - q.x2.im - q.x3.re⟩ →
      (∀ d, (bflyOut p d b q).x0 = ⟨q.x0.re + q.x1.re + q.x2.re + q.x3.re, q.x0.im + q.x1.im + q.x2.im + q.x3.im⟩ ∧
        (bflyOut p d b q).x1 = ⟨q.x0.re - q.x1.re + q.x2.re - q.x3.re, q.x0.im - q.x1.im + q.x2.im - q.x3.im⟩) ∧
      (bflyOut p .fwd b q).x2 = down ∧ (bflyOut p .fwd b q).x3 = up ∧
      (bflyOut p .inv b q).x2 = up ∧ (bflyOut p .inv b q).x3 = down

/-- 41_butterfly.md R175, R184: a pass of length 4 is the unscaled 4-point butterfly on X[0..3], with no pre-shift and no
multiply, in both directions; all values wrap at 32 bits. -/
def Obligations.FourPointPassFormula : Prop :=
  ∀ (s : State) (p : Pending), s.pending = some p → p.n = 4 →
    ∀ a b c d : Cplx, a = s.ram.sample 0 → b = s.ram.sample 1 → c = s.ram.sample 2 → d = s.ram.sample 3 →
      (∃ r, exec .bflyFwd s = .next { completedState s with ram := r } ∧
        r.sample 0 = ⟨a.re + b.re + c.re + d.re, a.im + b.im + c.im + d.im⟩ ∧
        r.sample 1 = ⟨a.re - b.re + c.re - d.re, a.im - b.im + c.im - d.im⟩ ∧
        r.sample 2 = ⟨a.re + b.im - c.re - d.im, a.im - b.re - c.im + d.re⟩ ∧
        r.sample 3 = ⟨a.re - b.im - c.re + d.im, a.im + b.re - c.im - d.re⟩) ∧
      (∃ r, exec .bflyInv s = .next { completedState s with ram := r } ∧
        r.sample 0 = ⟨a.re + b.re + c.re + d.re, a.im + b.im + c.im + d.im⟩ ∧
        r.sample 1 = ⟨a.re - b.re + c.re - d.re, a.im - b.im + c.im - d.im⟩ ∧
        r.sample 2 = ⟨a.re - b.im - c.re + d.im, a.im + b.re - c.im - d.re⟩ ∧
        r.sample 3 = ⟨a.re + b.im - c.re - d.im, a.im - b.re - c.im + d.re⟩)

/-- 41_butterfly.md R191, R178 to R180, R184: with every input part below 2^29 in size, no output of a LAST butterfly wraps:
the four combinations it writes are exact integers. -/
def Obligations.UnscaledButterflyExactBelowBound : Prop :=
  ∀ (p : Params) (d : Dir) (b : Bfly) (q : Quad), b.kind = .last →
    (∀ x ∈ [q.x0, q.x1, q.x2, q.x3], |x.re.toInt| < 2 ^ 29 ∧ |x.im.toInt| < 2 ^ 29) →
    ∀ o : Quad, o = bflyOut p d b q →
      ∀ y z : Cplx, (y, z) = (match d with | .fwd => (o.x2, o.x3) | .inv => (o.x3, o.x2)) →
      o.x0.re.toInt = q.x0.re.toInt + q.x1.re.toInt + q.x2.re.toInt + q.x3.re.toInt ∧
      o.x0.im.toInt = q.x0.im.toInt + q.x1.im.toInt + q.x2.im.toInt + q.x3.im.toInt ∧
      o.x1.re.toInt = q.x0.re.toInt - q.x1.re.toInt + q.x2.re.toInt - q.x3.re.toInt ∧
      o.x1.im.toInt = q.x0.im.toInt - q.x1.im.toInt + q.x2.im.toInt - q.x3.im.toInt ∧
      y.re.toInt = q.x0.re.toInt + q.x1.im.toInt - q.x2.re.toInt - q.x3.im.toInt ∧
      y.im.toInt = q.x0.im.toInt - q.x1.re.toInt - q.x2.im.toInt + q.x3.re.toInt ∧
      z.re.toInt = q.x0.re.toInt - q.x1.im.toInt - q.x2.re.toInt + q.x3.im.toInt ∧
      z.im.toInt = q.x0.im.toInt + q.x1.re.toInt - q.x2.im.toInt - q.x3.re.toInt

/-- 40_q31_datapath.md R145: with the twiddle ROM every accumulation is below 2^63 in size, because |C| + |S| is at most
sqrt(2) * 2^31 + 2 and an operand's part at most 2^31; a 64-bit two's-complement accumulator holds it exactly. -/
def Obligations.TwiddleAccumulationsFit64Bits : Prop :=
  ∀ (p : Params) (m : Nat) (c s : Int), m < 3 * p.nmax / 4 → c = (twEntry p m).re.toInt → s = (twEntry p m).im.toInt →
    ((|c| + |s| : Int) : ℝ) ≤ Real.sqrt 2 * 2 ^ 31 + 2 ∧
    ∀ x : Cplx, |x.re.toInt| ≤ 2 ^ 31 ∧ |x.im.toInt| ≤ 2 ^ 31 ∧
      ∀ acc ∈ [x.re.toInt * c - x.im.toInt * s, x.re.toInt * s + x.im.toInt * c,
          x.re.toInt * c + x.im.toInt * s, x.im.toInt * c - x.re.toInt * s],
        |acc| < 2 ^ 63 ∧ (BitVec.ofInt 64 acc).toInt = acc

/-- 20_memory.md R92, R93: for every size, every pair of the twiddle ROM is the exact cosine and minus sine, quantised. -/
def Obligations.TwiddleRomIsQuantisedCosine : Prop :=
  ∀ (p : Params) (m : Nat), m < 3 * p.nmax / 4 →
    (twEntry p m).re.toInt = q31 (Real.cos (2 * Real.pi * m / p.nmax)) ∧
    (twEntry p m).im.toInt = q31 (-Real.sin (2 * Real.pi * m / p.nmax))

/-! ## Bit reversal and the dispatcher -/

/-- 00_scope.md R17, 20_memory.md R95: entry i of the bit-reversal ROM is below NMAX, and its bits are those of i read
backwards over log2(NMAX) bits. -/
def Obligations.ReversalRomReversesBits : Prop :=
  ∀ (p : Params) (i k : Nat), i < p.nmax → k < 2 * p.log4Nmax →
    brEntry p i < p.nmax ∧ (brEntry p i).testBit k = i.testBit (2 * p.log4Nmax - 1 - k)

/-- 42_bitreversal.md R210, R213: BITREV completes, moves X[bitrev(i)] to X[i] for every i below N = 4^e, and changes no
other byte of memory and no register but STATUS. -/
def Obligations.BitrevPermutesSamples : Prop :=
  ∀ (s : State) (p : Pending) (e : Nat), s.pending = some p → 1 ≤ e → e ≤ s.params.log4Nmax → p.n.toNat = 4 ^ e →
    p.f.toNat * p.n.toNat = s.params.nmax →
    ∃ r : Ram, exec .bitrev s = .next { completedState s with ram := r } ∧ r.era = s.ram.era ∧
      (∀ i < p.n.toNat, r.sample i = s.ram.sample (bitrev (2 * e) i)) ∧
      ∀ a, (a < 0x8000 ∨ 0x8000 + 8 * p.n.toNat ≤ a) → r.readByte a = s.ram.readByte a

/-- 42_bitreversal.md R212: "Applying BITREV twice with the same N and F returns the RAM to its exact earlier contents". -/
def Obligations.BitrevTwiceIsIdentity : Prop :=
  ∀ (s : State) (p : Pending), s.pending = some p → s.params.LegalLength p.n.toNat →
    p.f.toNat * p.n.toNat = s.params.nmax →
    ∃ t u : State, exec .bitrev s = .next t ∧ exec .bitrev { t with pending := some p } = .next u ∧
      ∀ a, u.ram.readByte a = s.ram.readByte a

/-- 43_dispatcher.md R234: XFORM runs the butterfly pass of the captured direction, then BITREV's pass when the captured flag
asks for it, and completes once. -/
def Obligations.XformRunsPassThenReversal : Prop :=
  ∀ (s : State) (p : Pending), s.pending = some p →
    ∃ r₁ r₂ : Ram,
      exec (if p.inv then .bflyInv else .bflyFwd) s = .next { completedState s with ram := r₁ } ∧
      (if p.br then exec .bitrev { s with ram := r₁ } = .next { completedState s with ram := r₂ } else r₂ = r₁) ∧
      exec .xform s = .next { completedState s with ram := r₂ }

/-- 43_dispatcher.md R235, 41_butterfly.md R189: with N = 4 and bit reversal, XFORM leaves the exact discrete Fourier transform
of X[0..3] in natural order (forward), or the unscaled inverse, each value mod 2^32. -/
def Obligations.FourPointXformIsNaturalOrderDft : Prop :=
  ∀ (s : State) (p : Pending), s.pending = some p → p.n = 4 → p.f.toNat * 4 = s.params.nmax → p.br = true →
    ∀ a b c d : Cplx, a = s.ram.sample 0 → b = s.ram.sample 1 → c = s.ram.sample 2 → d = s.ram.sample 3 →
      ∃ r, exec .xform s = .next { completedState s with ram := r } ∧
        r.sample 0 = ⟨a.re + b.re + c.re + d.re, a.im + b.im + c.im + d.im⟩ ∧
        r.sample 2 = ⟨a.re - b.re + c.re - d.re, a.im - b.im + c.im - d.im⟩ ∧
        r.sample (if p.inv then 3 else 1) = ⟨a.re + b.im - c.re - d.im, a.im - b.re - c.im + d.re⟩ ∧
        r.sample (if p.inv then 1 else 3) = ⟨a.re - b.im - c.re + d.im, a.im + b.re - c.im - d.re⟩

/-- 43_dispatcher.md R236: for N = 4, XFORM with CTRL = 2 and then XFORM with CTRL = 3 yields exactly 4 * x (mod 2^32), here as
five steps of the machine: two commands presented and completed, and the CTRL write between them. -/
def Obligations.FourPointRoundTrip : Prop :=
  ∀ s : State, s.Idle → s.ctrl = ⟨false, true⟩ → s.len = 4 → s.twmod.toNat * 4 = s.params.nmax →
    s.brfact.toNat * 4 = s.params.nmax →
    s.inputs = [hostWrite s.params 0x018 1, .sequencer, hostWrite s.params 0x008 3, hostWrite s.params 0x018 1,
      .sequencer] →
    ∃ t, Host.Core.run Sys2Proof.core 5 s = .next t ∧ t.status = ⟨false, true, false, 0⟩ ∧ t.inputs = [] ∧
      ∀ w < 8, t.ram.readWord w = 4 * s.ram.readWord w

/-! ## The host port -/

/-- 60_exceptions.md R257: inside the window, a transaction is a bus error, with no state of R4FFT changed, exactly when it has
one of the four causes. -/
def Obligations.BusErrorHasExactlyTheseCauses : Prop :=
  ∀ (s : State) (t : Txn) (off : Nat) (rest : List Event), s.rstN = true → s.inputs = .host t :: rest →
    t.addr = s.params.base + off → off < 0x20000 →
    (BusErrorCause s t off → step s = .next { s with inputs := rest, response := some .busError }) ∧
    (¬BusErrorCause s t off → ∃ u, step s = .next u ∧ u.response ≠ some .busError)

/-- 20_memory.md R76: a read inside the window has no effect but its answer, and the same read again gives the same answer. -/
def Obligations.ReadsHaveNoSideEffect : Prop :=
  ∀ (s : State) (a n : Nat) (rest : List Event), s.rstN = true → s.inputs = .host (.read a n) :: rest →
    s.params.base ≤ a → a < s.params.base + 0x20000 →
    ∃ v : Response, step s = .next { s with inputs := rest, response := some v } ∧
      ∀ rest', step { s with response := some v, inputs := .host (.read a n) :: rest' } =
        .next { s with inputs := rest', response := some v }

/-- 20_memory.md R77 (10_state.md R35 to R38, R44 to R46): what a write of each plain register stores, and that it stores
nothing else; a guarded one needs BUSY = 0. -/
def Obligations.RegisterWritesStoreValue : Prop :=
  ∀ (s u : State) (off : Nat) (v : Word) (rest : List Event), s.rstN = true →
    s.inputs = hostWrite s.params off v :: rest → u = { s with inputs := rest, response := some .written } →
    (off = 0x020 → step s = .next { u with irqen := ⟨v.getLsbD 1, v.getLsbD 2⟩ }) ∧
    (s.status.busy = false →
      (off = 0x008 → step s = .next { u with ctrl := ⟨v.getLsbD 0, v.getLsbD 1⟩ }) ∧
      (off = 0x00C → step s = .next { u with len := v }) ∧
      (off = 0x010 → step s = .next { u with twmod := v }) ∧
      (off = 0x014 → step s = .next { u with brfact := v }) ∧
      (off = 0x024 → step s = .next { u with opa := v }) ∧
      (off = 0x028 → step s = .next { u with opb := v }) ∧
      (off = 0x02C → step s = .next { u with acc := (s.acc.extractLsb' 32 32 ++ v : BitVec (32 + 32)) }) ∧
      (off = 0x030 → step s = .next { u with acc := (v ++ s.acc.extractLsb' 0 32 : BitVec (32 + 32)) }))

/-- 10_state.md R35 to R38, R44 to R47, 20_memory.md R76: a read of a storage register answers what the register holds, with
the reserved bits 0, and changes nothing else: IRQEN at any time, the guarded ones, RES among them, with BUSY = 0. A word
written to a plain register is read back: unchanged, or, for CTRL and IRQEN, with the reserved bits 0. -/
def Obligations.RegistersReadBack : Prop :=
  (∀ (s : State) (rest : List Event), s.rstN = true →
    (s.inputs = hostRead s.params 0x020 :: rest →
      ∃ v : Word, step s = .next { s with inputs := rest, response := some (.data v) } ∧
        v.getLsbD 1 = s.irqen.doneIe ∧ v.getLsbD 2 = s.irqen.errIe ∧ v.extractLsb' 0 1 = 0 ∧ v.extractLsb' 3 29 = 0) ∧
    (s.status.busy = false →
      (s.inputs = hostRead s.params 0x008 :: rest →
        ∃ v : Word, step s = .next { s with inputs := rest, response := some (.data v) } ∧
          v.getLsbD 0 = s.ctrl.inv ∧ v.getLsbD 1 = s.ctrl.bitrev ∧ v.extractLsb' 2 30 = 0) ∧
      ∀ x ∈ [(0x00C, s.len), (0x010, s.twmod), (0x014, s.brfact), (0x024, s.opa), (0x028, s.opb),
          (0x02C, s.acc.extractLsb' 0 32), (0x030, s.acc.extractLsb' 32 32), (0x034, s.res)],
        s.inputs = hostRead s.params x.1 :: rest →
          step s = .next { s with inputs := rest, response := some (.data x.2) })) ∧
  ∀ (s : State) (off : Nat) (v : Word), s.rstN = true → s.status.busy = false →
    s.inputs = [hostWrite s.params off v, hostRead s.params off] →
    (off ∈ [0x00C, 0x010, 0x014, 0x024, 0x028, 0x02C, 0x030] →
      ∃ t, Host.Core.run Sys2Proof.core 2 s = .next t ∧ t.response = some (.data v)) ∧
    (off = 0x008 → ∃ t, Host.Core.run Sys2Proof.core 2 s = .next t ∧ t.response = some (.data (v &&& 3))) ∧
    (off = 0x020 → ∃ t, Host.Core.run Sys2Proof.core 2 s = .next t ∧ t.response = some (.data (v &&& 6)))

/-- 20_memory.md R78, R82: with BUSY = 0 a write to RAM word w stores the word, least significant byte at the lowest offset, and
changes no other byte and no register; a read returns the word. -/
def Obligations.RamWindowReadsAndWrites : Prop :=
  ∀ (s : State) (w : Nat) (rest : List Event), s.rstN = true → s.status.busy = false → w < 2 * s.params.nmax →
    (s.inputs = hostRead s.params (0x8000 + 4 * w) :: rest →
      step s = .next { s with inputs := rest, response := some (.data (s.ram.readWord w)) }) ∧
    (∀ v : Word, s.inputs = hostWrite s.params (0x8000 + 4 * w) v :: rest →
      ∃ r : Ram, step s = .next { s with inputs := rest, response := some .written, ram := r } ∧
        r.era = s.ram.era ∧ r.readWord w = v ∧
        (∀ b < 4, r.readByte (0x8000 + 4 * w + b) = v.extractLsb' (8 * b) 8) ∧
        ∀ a, (a < 0x8000 + 4 * w ∨ 0x8000 + 4 * w + 4 ≤ a) → r.readByte a = s.ram.readByte a)

/-- 20_memory.md R79, R80: the ROM windows read C_m and S_m at words 2m and 2m+1, and BR[i] at word i, whether BUSY or not. -/
def Obligations.RomWindowsRead : Prop :=
  ∀ (s : State) (m : Nat) (rest : List Event), s.rstN = true →
    (m < 3 * s.params.nmax / 4 →
      (s.inputs = hostRead s.params (0x10000 + 8 * m) :: rest →
        step s = .next { s with inputs := rest, response := some (.data (twEntry s.params m).re) }) ∧
      (s.inputs = hostRead s.params (0x10000 + 8 * m + 4) :: rest →
        step s = .next { s with inputs := rest, response := some (.data (twEntry s.params m).im) })) ∧
    (m < s.params.nmax → s.inputs = hostRead s.params (0x18000 + 4 * m) :: rest →
      ∃ v : Word, v.toNat = brEntry s.params m ∧
        step s = .next { s with inputs := rest, response := some (.data v) })

/-- 10_state.md R33, R34, R39: ID and CAP read their constants at any time, and CMD reads 0 while BUSY = 0. -/
def Obligations.ConstantRegistersRead : Prop :=
  ∀ (s : State) (rest : List Event), s.rstN = true →
    (s.inputs = hostRead s.params 0x000 :: rest →
      step s = .next { s with inputs := rest, response := some (.data 0x52344654) }) ∧
    (s.inputs = hostRead s.params 0x004 :: rest →
      ∃ v : Word, step s = .next { s with inputs := rest, response := some (.data v) } ∧
        (v.extractLsb' 0 4).toNat = s.params.log4Nmax ∧ v.extractLsb' 4 4 = 1 ∧ v.extractLsb' 8 24 = 0) ∧
    (s.status.busy = false → s.inputs = hostRead s.params 0x018 :: rest →
      step s = .next { s with inputs := rest, response := some (.data 0) })

/-- 10_state.md R40 to R43: STATUS reads BUSY, DONE, ERR and ERRCODE in their places and 0 elsewhere, at any time; a write
clears DONE and ERR where it has a 1, clears ERRCODE with ERR, and changes nothing else. -/
def Obligations.StatusReadsAndClears : Prop :=
  ∀ (s : State) (rest : List Event), s.rstN = true →
    (s.inputs = hostRead s.params 0x01C :: rest →
      ∃ v : Word, step s = .next { s with inputs := rest, response := some (.data v) } ∧
        v.getLsbD 0 = s.status.busy ∧ v.getLsbD 1 = s.status.done ∧ v.getLsbD 2 = s.status.err ∧
        v.extractLsb' 3 5 = 0 ∧ v.extractLsb' 8 4 = s.status.errcode ∧ v.extractLsb' 12 20 = 0) ∧
    ∀ v : Word, s.inputs = hostWrite s.params 0x01C v :: rest →
      step s = .next { s with
        inputs := rest
        response := some .written
        status := {
          busy := s.status.busy
          done := if v.getLsbD 1 then false else s.status.done
          err := if v.getLsbD 2 then false else s.status.err
          errcode := if v.getLsbD 2 then 0 else s.status.errcode } }

/-- 60_exceptions.md R260, 10_state.md R44: irq is up exactly when STATUS and IRQEN, as they are read, share a 1 (the bit
positions match). -/
def Obligations.IrqIsEnabledStatus : Prop :=
  ∀ s : State, s.irq = true ↔ statusWord s.status &&& irqenWord s.irqen ≠ 0

/-- 20_memory.md R81: while BUSY = 1 no host transaction changes anything but DONE, ERR, ERRCODE and IRQEN: not the RAM, the
descriptor, the MAC registers, BUSY or the pending command. -/
def Obligations.BusyGuardProtectsCommand : Prop :=
  ∀ (s u : State) (t : Txn) (rest : List Event), s.status.busy = true → s.inputs = .host t :: rest →
    step s = .next u →
    u.status.busy = true ∧
    u = { s with inputs := rest, response := u.response, status := u.status, irqen := u.irqen }

/-- The machine stops only where the model's log says so, and there it does: a host transaction outside the window of
20_memory.md R70 (the model's choice, log entry 2) or while rst_n is asserted (the model's choice for what
70_reset_and_hazards.md R290 puts outside the spec, log entry 7). Every other step answers a next state. -/
def Obligations.StopsOnlyOutsideTheSpec : Prop :=
  (∀ (s : State) (t : Txn) (rest : List Event), s.inputs = .host t :: rest →
    (s.rstN = false → step s = .refused .hostDuringReset) ∧
    (s.rstN = true → (t.addr < s.params.base ∨ s.params.base + 0x20000 ≤ t.addr) →
      step s = .fault (.outsideWindow t.addr))) ∧
  ∀ s : State, (∃ u, step s = .next u) ∨
    ∃ (t : Txn) (rest : List Event), s.inputs = .host t :: rest ∧
      (s.rstN = false ∨ t.addr < s.params.base ∨ s.params.base + 0x20000 ≤ t.addr)

/-! ## Reset -/

/-- 70_reset_and_hazards.md R291: the state after reset. -/
def Obligations.ResetLeavesSpecifiedValues : Prop :=
  ∀ s : State, s = State.reset →
    readReg .id s = 0x52344654 ∧ readReg .cap s = BitVec.ofNat 32 (s.params.log4Nmax + 16) ∧
    (∀ r ∈ [Reg.ctrl, .len, .twmod, .brfact, .cmd, .status, .irqen, .opa, .opb, .accLo, .accHi, .res], readReg r s = 0) ∧
    s.acc = 0 ∧ s.pending = none ∧ s.irq = false ∧ s.ram.cells = [] ∧ s.params.log4Nmax = 5

/-- 70_reset_and_hazards.md R290, R291, R293: asserting rst_n, whatever the block was doing, puts every register at its reset
value, abandons the pending command and leaves nothing of the RAM written; the parameters stand. Releasing it (R290, R294)
changes the level of rst_n and nothing else: the block waits in the state it is in. -/
def Obligations.AssertedResetForgetsEverything : Prop :=
  (∀ (s : State) (rest : List Event), s.inputs = .rstN true :: rest →
    step s = .next { s with inputs := rest, rstN := true }) ∧
  ∀ (s : State) (rest : List Event), s.inputs = .rstN false :: rest →
    ∃ t, step s = .next t ∧ t.params = s.params ∧ t.rstN = false ∧ t.inputs = rest ∧ t.ram.cells = [] ∧
      t.pending = none ∧ t.ctrl = ⟨false, false⟩ ∧ t.len = 0 ∧ t.twmod = 0 ∧ t.brfact = 0 ∧
      t.status = ⟨false, false, false, 0⟩ ∧ t.irqen = ⟨false, false⟩ ∧ t.opa = 0 ∧ t.opb = 0 ∧ t.acc = 0 ∧
      t.res = 0 ∧ t.irq = false

/-! ## Every reachable state -/

/-- The machine after reset meets the invariant. -/
def Obligations.ResetMeetsInvariant : Prop := State.reset.Inv

/-- 10_state.md R43, R52, 60_exceptions.md R251, R261, 70_reset_and_hazards.md R290 and the canonical form of memory: every step
from a state that meets the invariant gives one that meets it. -/
def Obligations.StepKeepsInvariant : Prop := ∀ s t : State, s.Inv → step s = .next t → t.Inv

/-- 10_state.md R30, R49, R50: the parameters, and with them ID, CAP and both ROMs, never change. -/
def Obligations.StepKeepsParameters : Prop :=
  ∀ s t : State, step s = .next t → t.params = s.params ∧ ∀ w, twWord t.params w = twWord s.params w

/-- 10_state.md R40: BUSY "is set only by an accepted command and cleared only by completion or reset". -/
def Obligations.BusyChangesOnlyByCommandOrReset : Prop :=
  ∀ s t : State, step s = .next t →
    (s.status.busy = false → t.status.busy = true →
      ∃ (w : Word) (i : Instr) (rest : List Event), s.inputs = hostWrite s.params 0x018 w :: rest ∧
        decode w = .ok i ∧ t.pending.map Pending.cmd = some i) ∧
    (s.status.busy = true → t.status.busy = false →
      (∃ rest, s.inputs = .rstN false :: rest) ∨
      (s.pending.isSome = true ∧ t.pending = none ∧ t.status.done = true ∧
        (s.inputs = [] ∨ ∃ rest, s.inputs = .sequencer :: rest)))

/-- 10_state.md R48, 20_memory.md R86: a byte of memory changes only by a host write to its RAM word with BUSY = 0, by reset, or
by the completion of a transform command of length N whose buffer RAM[0 .. 2N-1] holds it. -/
def Obligations.MemoryChangesOnlyByTheseEvents : Prop :=
  ∀ (s t : State) (a : Nat), s.Inv → step s = .next t → t.ram.readByte a ≠ s.ram.readByte a →
    (∃ (w : Nat) (v : Word) (rest : List Event), s.status.busy = false ∧
      s.inputs = hostWrite s.params (0x8000 + 4 * w) v :: rest ∧ 0x8000 + 4 * w ≤ a ∧ a < 0x8000 + 4 * w + 4) ∨
    (∃ rest, s.inputs = .rstN false :: rest) ∨
    (∃ p, s.pending = some p ∧ p.cmd.UsesLen ∧ t.pending = none ∧ 0x8000 ≤ a ∧ a < 0x8000 + 8 * p.n.toNat)

/-- 70_reset_and_hazards.md R303, 43_dispatcher.md R232: whatever the host does in the window meanwhile, an accepted command
completes, at the latest one step after the queue is spent, and its effect on RAM, ACC and RES is the one it has from the
present state at once. That the sequencer takes its turn when the queue is empty is the model's choice (log entry 6). -/
def Obligations.AcceptedCommandEventuallyCompletes : Prop :=
  ∀ (s : State) (p : Pending), s.Inv → s.rstN = true → s.pending = some p →
    (∀ e ∈ s.inputs, e = .sequencer ∨
      ∃ t : Txn, e = .host t ∧ s.params.base ≤ t.addr ∧ t.addr < s.params.base + 0x20000) →
    ∃ (k : Nat) (t u : State), k ≤ s.inputs.length + 1 ∧ Host.Core.run Sys2Proof.core k s = .next t ∧
      t.pending = none ∧ t.status.busy = false ∧ t.status.done = true ∧
      exec p.cmd s = .next u ∧ t.ram = u.ram ∧ t.acc = u.acc ∧ t.res = u.res ∧
      t.len = s.len ∧ t.twmod = s.twmod ∧ t.brfact = s.brfact ∧ t.ctrl = s.ctrl ∧ t.opa = s.opa ∧ t.opb = s.opb
end

