-- ==== Sys2Proof/Laws/Arith.lean ====
section
/-! SUPPORT. The laws of the Q31 primitives: each says once what the primitive computes. -/

namespace Sys2Proof.Machine

@[simp] theorem u32_s32 (w : Word) : u32 (s32 w) = w := BitVec.ofInt_toInt

@[simp] theorem u64_s64 (w : AccWord) : u64 (s64 w) = w := BitVec.ofInt_toInt

/-- Storing a wrapped integer stores the integer (00_scope.md R13). -/
@[simp] theorem u32_wrap32 (v : Int) : u32 (wrap32 v) = u32 v := u32_s32 _

@[simp] theorem u64_wrap64 (v : Int) : u64 (wrap64 v) = u64 v := u64_s64 _

/-- The wrapping sum is the sum of the patterns (40_q31_datapath.md R140). -/
@[simp] theorem add32_eq (a b : Word) : add32 a b = a + b := by
  rw [add32, u32_wrap32, u32, s32, s32, BitVec.ofInt_add, BitVec.ofInt_toInt, BitVec.ofInt_toInt]

/-- The wrapping difference is the difference of the patterns (40_q31_datapath.md R140). -/
@[simp] theorem sub32_eq (a b : Word) : sub32 a b = a - b := by
  rw [sub32, u32_wrap32, u32, s32, s32]
  apply BitVec.eq_of_toInt_eq
  simp [BitVec.toInt_ofInt, BitVec.toInt_sub]

/-- The arithmetic shift is the floor of the quotient (00_scope.md R13, 40_q31_datapath.md R141). -/
theorem sra_eq_div (v : Int) (n : Nat) : sra v n = v / 2 ^ n := by
  rw [sra, Int.shiftRight_eq_div_pow]
  norm_cast

theorem sra_eq_floor (v : Int) (n : Nat) : sra v n = ⌊(v : ℚ) / 2 ^ n⌋ := by
  rw [sra_eq_div]
  have h := Rat.floor_intCast_div_natCast v (2 ^ n)
  push_cast at h
  exact h.symm

theorem s32_u32 (v : Int) : s32 (u32 v) = v.bmod (2 ^ 32) := BitVec.toInt_ofInt ..

theorem s64_u64 (v : Int) : s64 (u64 v) = v.bmod (2 ^ 64) := BitVec.toInt_ofInt ..

/-- An integer of the signed 32-bit range is stored exactly. -/
theorem s32_u32_of_range {v : Int} (h₁ : -2 ^ 31 ≤ v) (h₂ : v < 2 ^ 31) : s32 (u32 v) = v := by
  rw [s32_u32]
  exact Int.bmod_eq_of_le (by norm_num at *; omega) (by norm_num at *; omega)

theorem s64_u64_of_range {v : Int} (h₁ : -2 ^ 63 ≤ v) (h₂ : v < 2 ^ 63) : s64 (u64 v) = v := by
  rw [s64_u64]
  exact Int.bmod_eq_of_le (by norm_num at *; omega) (by norm_num at *; omega)

theorem s32_range (w : Word) : -2 ^ 31 ≤ s32 w ∧ s32 w < 2 ^ 31 := ⟨BitVec.le_toInt w, BitVec.toInt_lt⟩

theorem sat32_range (v : Int) : -2 ^ 31 ≤ sat32 v ∧ sat32 v < 2 ^ 31 := by
  unfold sat32
  omega

/-- A value of the signed 32-bit range is not clamped (40_q31_datapath.md R146). -/
theorem sat32_of_range {v : Int} (h₁ : -2 ^ 31 ≤ v) (h₂ : v < 2 ^ 31) : sat32 v = v := by
  unfold sat32
  omega

/-- The product of two Q31 words lies in the range 40_q31_datapath.md R142 gives. -/
theorem prod_range (a b : Word) : -2 ^ 62 + 2 ^ 31 ≤ prod a b ∧ prod a b ≤ 2 ^ 62 := by
  obtain ⟨ha₁, ha₂⟩ := s32_range a
  obtain ⟨hb₁, hb₂⟩ := s32_range b
  unfold prod
  constructor <;> nlinarith

end Sys2Proof.Machine
end

