-- ==== Sys2Proof/Laws/State.lean ====
section
/-! SUPPORT. One lemma per field per update of State, true by unfolding once, so that no later proof unfolds an update. -/

namespace Sys2Proof.Machine

/-! ## `withStatus` -/

@[simp] theorem State.withStatus_params (s : State) (x : Status) : (s.withStatus x).params = s.params := rfl
@[simp] theorem State.withStatus_ctrl (s : State) (x : Status) : (s.withStatus x).ctrl = s.ctrl := rfl
@[simp] theorem State.withStatus_len (s : State) (x : Status) : (s.withStatus x).len = s.len := rfl
@[simp] theorem State.withStatus_twmod (s : State) (x : Status) : (s.withStatus x).twmod = s.twmod := rfl
@[simp] theorem State.withStatus_brfact (s : State) (x : Status) : (s.withStatus x).brfact = s.brfact := rfl
@[simp] theorem State.withStatus_status (s : State) (x : Status) : (s.withStatus x).status = x := rfl
@[simp] theorem State.withStatus_irqen (s : State) (x : Status) : (s.withStatus x).irqen = s.irqen := rfl
@[simp] theorem State.withStatus_opa (s : State) (x : Status) : (s.withStatus x).opa = s.opa := rfl
@[simp] theorem State.withStatus_opb (s : State) (x : Status) : (s.withStatus x).opb = s.opb := rfl
@[simp] theorem State.withStatus_acc (s : State) (x : Status) : (s.withStatus x).acc = s.acc := rfl
@[simp] theorem State.withStatus_res (s : State) (x : Status) : (s.withStatus x).res = s.res := rfl
@[simp] theorem State.withStatus_ram (s : State) (x : Status) : (s.withStatus x).ram = s.ram := rfl
@[simp] theorem State.withStatus_pending (s : State) (x : Status) : (s.withStatus x).pending = s.pending := rfl
@[simp] theorem State.withStatus_rstN (s : State) (x : Status) : (s.withStatus x).rstN = s.rstN := rfl
@[simp] theorem State.withStatus_inputs (s : State) (x : Status) : (s.withStatus x).inputs = s.inputs := rfl
@[simp] theorem State.withStatus_response (s : State) (x : Status) : (s.withStatus x).response = s.response := rfl

/-! ## `withPending` -/

@[simp] theorem State.withPending_params (s : State) (x : Option Pending) : (s.withPending x).params = s.params := rfl
@[simp] theorem State.withPending_ctrl (s : State) (x : Option Pending) : (s.withPending x).ctrl = s.ctrl := rfl
@[simp] theorem State.withPending_len (s : State) (x : Option Pending) : (s.withPending x).len = s.len := rfl
@[simp] theorem State.withPending_twmod (s : State) (x : Option Pending) : (s.withPending x).twmod = s.twmod := rfl
@[simp] theorem State.withPending_brfact (s : State) (x : Option Pending) : (s.withPending x).brfact = s.brfact := rfl
@[simp] theorem State.withPending_status (s : State) (x : Option Pending) : (s.withPending x).status = s.status := rfl
@[simp] theorem State.withPending_irqen (s : State) (x : Option Pending) : (s.withPending x).irqen = s.irqen := rfl
@[simp] theorem State.withPending_opa (s : State) (x : Option Pending) : (s.withPending x).opa = s.opa := rfl
@[simp] theorem State.withPending_opb (s : State) (x : Option Pending) : (s.withPending x).opb = s.opb := rfl
@[simp] theorem State.withPending_acc (s : State) (x : Option Pending) : (s.withPending x).acc = s.acc := rfl
@[simp] theorem State.withPending_res (s : State) (x : Option Pending) : (s.withPending x).res = s.res := rfl
@[simp] theorem State.withPending_ram (s : State) (x : Option Pending) : (s.withPending x).ram = s.ram := rfl
@[simp] theorem State.withPending_pending (s : State) (x : Option Pending) : (s.withPending x).pending = x := rfl
@[simp] theorem State.withPending_rstN (s : State) (x : Option Pending) : (s.withPending x).rstN = s.rstN := rfl
@[simp] theorem State.withPending_inputs (s : State) (x : Option Pending) : (s.withPending x).inputs = s.inputs := rfl
@[simp] theorem State.withPending_response (s : State) (x : Option Pending) :
    (s.withPending x).response = s.response := rfl

/-! ## `withAcc` -/

@[simp] theorem State.withAcc_params (s : State) (x : AccWord) : (s.withAcc x).params = s.params := rfl
@[simp] theorem State.withAcc_ctrl (s : State) (x : AccWord) : (s.withAcc x).ctrl = s.ctrl := rfl
@[simp] theorem State.withAcc_len (s : State) (x : AccWord) : (s.withAcc x).len = s.len := rfl
@[simp] theorem State.withAcc_twmod (s : State) (x : AccWord) : (s.withAcc x).twmod = s.twmod := rfl
@[simp] theorem State.withAcc_brfact (s : State) (x : AccWord) : (s.withAcc x).brfact = s.brfact := rfl
@[simp] theorem State.withAcc_status (s : State) (x : AccWord) : (s.withAcc x).status = s.status := rfl
@[simp] theorem State.withAcc_irqen (s : State) (x : AccWord) : (s.withAcc x).irqen = s.irqen := rfl
@[simp] theorem State.withAcc_opa (s : State) (x : AccWord) : (s.withAcc x).opa = s.opa := rfl
@[simp] theorem State.withAcc_opb (s : State) (x : AccWord) : (s.withAcc x).opb = s.opb := rfl
@[simp] theorem State.withAcc_acc (s : State) (x : AccWord) : (s.withAcc x).acc = x := rfl
@[simp] theorem State.withAcc_res (s : State) (x : AccWord) : (s.withAcc x).res = s.res := rfl
@[simp] theorem State.withAcc_ram (s : State) (x : AccWord) : (s.withAcc x).ram = s.ram := rfl
@[simp] theorem State.withAcc_pending (s : State) (x : AccWord) : (s.withAcc x).pending = s.pending := rfl
@[simp] theorem State.withAcc_rstN (s : State) (x : AccWord) : (s.withAcc x).rstN = s.rstN := rfl
@[simp] theorem State.withAcc_inputs (s : State) (x : AccWord) : (s.withAcc x).inputs = s.inputs := rfl
@[simp] theorem State.withAcc_response (s : State) (x : AccWord) : (s.withAcc x).response = s.response := rfl

/-! ## `withRes` -/

@[simp] theorem State.withRes_params (s : State) (x : Word) : (s.withRes x).params = s.params := rfl
@[simp] theorem State.withRes_ctrl (s : State) (x : Word) : (s.withRes x).ctrl = s.ctrl := rfl
@[simp] theorem State.withRes_len (s : State) (x : Word) : (s.withRes x).len = s.len := rfl
@[simp] theorem State.withRes_twmod (s : State) (x : Word) : (s.withRes x).twmod = s.twmod := rfl
@[simp] theorem State.withRes_brfact (s : State) (x : Word) : (s.withRes x).brfact = s.brfact := rfl
@[simp] theorem State.withRes_status (s : State) (x : Word) : (s.withRes x).status = s.status := rfl
@[simp] theorem State.withRes_irqen (s : State) (x : Word) : (s.withRes x).irqen = s.irqen := rfl
@[simp] theorem State.withRes_opa (s : State) (x : Word) : (s.withRes x).opa = s.opa := rfl
@[simp] theorem State.withRes_opb (s : State) (x : Word) : (s.withRes x).opb = s.opb := rfl
@[simp] theorem State.withRes_acc (s : State) (x : Word) : (s.withRes x).acc = s.acc := rfl
@[simp] theorem State.withRes_res (s : State) (x : Word) : (s.withRes x).res = x := rfl
@[simp] theorem State.withRes_ram (s : State) (x : Word) : (s.withRes x).ram = s.ram := rfl
@[simp] theorem State.withRes_pending (s : State) (x : Word) : (s.withRes x).pending = s.pending := rfl
@[simp] theorem State.withRes_rstN (s : State) (x : Word) : (s.withRes x).rstN = s.rstN := rfl
@[simp] theorem State.withRes_inputs (s : State) (x : Word) : (s.withRes x).inputs = s.inputs := rfl
@[simp] theorem State.withRes_response (s : State) (x : Word) : (s.withRes x).response = s.response := rfl

/-! ## `withRam` -/

@[simp] theorem State.withRam_params (s : State) (x : Ram) : (s.withRam x).params = s.params := rfl
@[simp] theorem State.withRam_ctrl (s : State) (x : Ram) : (s.withRam x).ctrl = s.ctrl := rfl
@[simp] theorem State.withRam_len (s : State) (x : Ram) : (s.withRam x).len = s.len := rfl
@[simp] theorem State.withRam_twmod (s : State) (x : Ram) : (s.withRam x).twmod = s.twmod := rfl
@[simp] theorem State.withRam_brfact (s : State) (x : Ram) : (s.withRam x).brfact = s.brfact := rfl
@[simp] theorem State.withRam_status (s : State) (x : Ram) : (s.withRam x).status = s.status := rfl
@[simp] theorem State.withRam_irqen (s : State) (x : Ram) : (s.withRam x).irqen = s.irqen := rfl
@[simp] theorem State.withRam_opa (s : State) (x : Ram) : (s.withRam x).opa = s.opa := rfl
@[simp] theorem State.withRam_opb (s : State) (x : Ram) : (s.withRam x).opb = s.opb := rfl
@[simp] theorem State.withRam_acc (s : State) (x : Ram) : (s.withRam x).acc = s.acc := rfl
@[simp] theorem State.withRam_res (s : State) (x : Ram) : (s.withRam x).res = s.res := rfl
@[simp] theorem State.withRam_ram (s : State) (x : Ram) : (s.withRam x).ram = x := rfl
@[simp] theorem State.withRam_pending (s : State) (x : Ram) : (s.withRam x).pending = s.pending := rfl
@[simp] theorem State.withRam_rstN (s : State) (x : Ram) : (s.withRam x).rstN = s.rstN := rfl
@[simp] theorem State.withRam_inputs (s : State) (x : Ram) : (s.withRam x).inputs = s.inputs := rfl
@[simp] theorem State.withRam_response (s : State) (x : Ram) : (s.withRam x).response = s.response := rfl

/-! ## `withResponse` -/

@[simp] theorem State.withResponse_params (s : State) (x : Response) : (s.withResponse x).params = s.params := rfl
@[simp] theorem State.withResponse_ctrl (s : State) (x : Response) : (s.withResponse x).ctrl = s.ctrl := rfl
@[simp] theorem State.withResponse_len (s : State) (x : Response) : (s.withResponse x).len = s.len := rfl
@[simp] theorem State.withResponse_twmod (s : State) (x : Response) : (s.withResponse x).twmod = s.twmod := rfl
@[simp] theorem State.withResponse_brfact (s : State) (x : Response) : (s.withResponse x).brfact = s.brfact := rfl
@[simp] theorem State.withResponse_status (s : State) (x : Response) : (s.withResponse x).status = s.status := rfl
@[simp] theorem State.withResponse_irqen (s : State) (x : Response) : (s.withResponse x).irqen = s.irqen := rfl
@[simp] theorem State.withResponse_opa (s : State) (x : Response) : (s.withResponse x).opa = s.opa := rfl
@[simp] theorem State.withResponse_opb (s : State) (x : Response) : (s.withResponse x).opb = s.opb := rfl
@[simp] theorem State.withResponse_acc (s : State) (x : Response) : (s.withResponse x).acc = s.acc := rfl
@[simp] theorem State.withResponse_res (s : State) (x : Response) : (s.withResponse x).res = s.res := rfl
@[simp] theorem State.withResponse_ram (s : State) (x : Response) : (s.withResponse x).ram = s.ram := rfl
@[simp] theorem State.withResponse_pending (s : State) (x : Response) : (s.withResponse x).pending = s.pending := rfl
@[simp] theorem State.withResponse_rstN (s : State) (x : Response) : (s.withResponse x).rstN = s.rstN := rfl
@[simp] theorem State.withResponse_inputs (s : State) (x : Response) : (s.withResponse x).inputs = s.inputs := rfl
@[simp] theorem State.withResponse_response (s : State) (x : Response) : (s.withResponse x).response = some x := rfl

/-! ## `withInputs` -/

@[simp] theorem State.withInputs_params (s : State) (x : List Event) : (s.withInputs x).params = s.params := rfl
@[simp] theorem State.withInputs_ctrl (s : State) (x : List Event) : (s.withInputs x).ctrl = s.ctrl := rfl
@[simp] theorem State.withInputs_len (s : State) (x : List Event) : (s.withInputs x).len = s.len := rfl
@[simp] theorem State.withInputs_twmod (s : State) (x : List Event) : (s.withInputs x).twmod = s.twmod := rfl
@[simp] theorem State.withInputs_brfact (s : State) (x : List Event) : (s.withInputs x).brfact = s.brfact := rfl
@[simp] theorem State.withInputs_status (s : State) (x : List Event) : (s.withInputs x).status = s.status := rfl
@[simp] theorem State.withInputs_irqen (s : State) (x : List Event) : (s.withInputs x).irqen = s.irqen := rfl
@[simp] theorem State.withInputs_opa (s : State) (x : List Event) : (s.withInputs x).opa = s.opa := rfl
@[simp] theorem State.withInputs_opb (s : State) (x : List Event) : (s.withInputs x).opb = s.opb := rfl
@[simp] theorem State.withInputs_acc (s : State) (x : List Event) : (s.withInputs x).acc = s.acc := rfl
@[simp] theorem State.withInputs_res (s : State) (x : List Event) : (s.withInputs x).res = s.res := rfl
@[simp] theorem State.withInputs_ram (s : State) (x : List Event) : (s.withInputs x).ram = s.ram := rfl
@[simp] theorem State.withInputs_pending (s : State) (x : List Event) : (s.withInputs x).pending = s.pending := rfl
@[simp] theorem State.withInputs_rstN (s : State) (x : List Event) : (s.withInputs x).rstN = s.rstN := rfl
@[simp] theorem State.withInputs_inputs (s : State) (x : List Event) : (s.withInputs x).inputs = x := rfl
@[simp] theorem State.withInputs_response (s : State) (x : List Event) : (s.withInputs x).response = s.response := rfl

/-! ## `raiseCmdError` -/

@[simp] theorem raiseCmdError_params (s : State) (e : CmdError) : (raiseCmdError e s).params = s.params := rfl
@[simp] theorem raiseCmdError_ctrl (s : State) (e : CmdError) : (raiseCmdError e s).ctrl = s.ctrl := rfl
@[simp] theorem raiseCmdError_len (s : State) (e : CmdError) : (raiseCmdError e s).len = s.len := rfl
@[simp] theorem raiseCmdError_twmod (s : State) (e : CmdError) : (raiseCmdError e s).twmod = s.twmod := rfl
@[simp] theorem raiseCmdError_brfact (s : State) (e : CmdError) : (raiseCmdError e s).brfact = s.brfact := rfl
@[simp] theorem raiseCmdError_status (s : State) (e : CmdError) :
    (raiseCmdError e s).status = { s.status with err := true, errcode := e.code } := rfl
@[simp] theorem raiseCmdError_irqen (s : State) (e : CmdError) : (raiseCmdError e s).irqen = s.irqen := rfl
@[simp] theorem raiseCmdError_opa (s : State) (e : CmdError) : (raiseCmdError e s).opa = s.opa := rfl
@[simp] theorem raiseCmdError_opb (s : State) (e : CmdError) : (raiseCmdError e s).opb = s.opb := rfl
@[simp] theorem raiseCmdError_acc (s : State) (e : CmdError) : (raiseCmdError e s).acc = s.acc := rfl
@[simp] theorem raiseCmdError_res (s : State) (e : CmdError) : (raiseCmdError e s).res = s.res := rfl
@[simp] theorem raiseCmdError_ram (s : State) (e : CmdError) : (raiseCmdError e s).ram = s.ram := rfl
@[simp] theorem raiseCmdError_pending (s : State) (e : CmdError) : (raiseCmdError e s).pending = s.pending := rfl
@[simp] theorem raiseCmdError_rstN (s : State) (e : CmdError) : (raiseCmdError e s).rstN = s.rstN := rfl
@[simp] theorem raiseCmdError_inputs (s : State) (e : CmdError) : (raiseCmdError e s).inputs = s.inputs := rfl
@[simp] theorem raiseCmdError_response (s : State) (e : CmdError) : (raiseCmdError e s).response = s.response := rfl

/-! ## `raiseBusError` -/

@[simp] theorem raiseBusError_params (s : State) : (raiseBusError s).params = s.params := rfl
@[simp] theorem raiseBusError_ctrl (s : State) : (raiseBusError s).ctrl = s.ctrl := rfl
@[simp] theorem raiseBusError_len (s : State) : (raiseBusError s).len = s.len := rfl
@[simp] theorem raiseBusError_twmod (s : State) : (raiseBusError s).twmod = s.twmod := rfl
@[simp] theorem raiseBusError_brfact (s : State) : (raiseBusError s).brfact = s.brfact := rfl
@[simp] theorem raiseBusError_status (s : State) : (raiseBusError s).status = s.status := rfl
@[simp] theorem raiseBusError_irqen (s : State) : (raiseBusError s).irqen = s.irqen := rfl
@[simp] theorem raiseBusError_opa (s : State) : (raiseBusError s).opa = s.opa := rfl
@[simp] theorem raiseBusError_opb (s : State) : (raiseBusError s).opb = s.opb := rfl
@[simp] theorem raiseBusError_acc (s : State) : (raiseBusError s).acc = s.acc := rfl
@[simp] theorem raiseBusError_res (s : State) : (raiseBusError s).res = s.res := rfl
@[simp] theorem raiseBusError_ram (s : State) : (raiseBusError s).ram = s.ram := rfl
@[simp] theorem raiseBusError_pending (s : State) : (raiseBusError s).pending = s.pending := rfl
@[simp] theorem raiseBusError_rstN (s : State) : (raiseBusError s).rstN = s.rstN := rfl
@[simp] theorem raiseBusError_inputs (s : State) : (raiseBusError s).inputs = s.inputs := rfl
@[simp] theorem raiseBusError_response (s : State) : (raiseBusError s).response = some .busError := rfl

/-! ## `clearOutcome` -/

@[simp] theorem clearOutcome_params (s : State) : (clearOutcome s).params = s.params := rfl
@[simp] theorem clearOutcome_ctrl (s : State) : (clearOutcome s).ctrl = s.ctrl := rfl
@[simp] theorem clearOutcome_len (s : State) : (clearOutcome s).len = s.len := rfl
@[simp] theorem clearOutcome_twmod (s : State) : (clearOutcome s).twmod = s.twmod := rfl
@[simp] theorem clearOutcome_brfact (s : State) : (clearOutcome s).brfact = s.brfact := rfl
@[simp] theorem clearOutcome_status (s : State) :
    (clearOutcome s).status = { s.status with done := false, err := false, errcode := 0 } := rfl
@[simp] theorem clearOutcome_irqen (s : State) : (clearOutcome s).irqen = s.irqen := rfl
@[simp] theorem clearOutcome_opa (s : State) : (clearOutcome s).opa = s.opa := rfl
@[simp] theorem clearOutcome_opb (s : State) : (clearOutcome s).opb = s.opb := rfl
@[simp] theorem clearOutcome_acc (s : State) : (clearOutcome s).acc = s.acc := rfl
@[simp] theorem clearOutcome_res (s : State) : (clearOutcome s).res = s.res := rfl
@[simp] theorem clearOutcome_ram (s : State) : (clearOutcome s).ram = s.ram := rfl
@[simp] theorem clearOutcome_pending (s : State) : (clearOutcome s).pending = s.pending := rfl
@[simp] theorem clearOutcome_rstN (s : State) : (clearOutcome s).rstN = s.rstN := rfl
@[simp] theorem clearOutcome_inputs (s : State) : (clearOutcome s).inputs = s.inputs := rfl
@[simp] theorem clearOutcome_response (s : State) : (clearOutcome s).response = s.response := rfl

/-! ## `clearWritten` -/

@[simp] theorem clearWritten_params (s : State) (v : Word) : (clearWritten v s).params = s.params := rfl
@[simp] theorem clearWritten_ctrl (s : State) (v : Word) : (clearWritten v s).ctrl = s.ctrl := rfl
@[simp] theorem clearWritten_len (s : State) (v : Word) : (clearWritten v s).len = s.len := rfl
@[simp] theorem clearWritten_twmod (s : State) (v : Word) : (clearWritten v s).twmod = s.twmod := rfl
@[simp] theorem clearWritten_brfact (s : State) (v : Word) : (clearWritten v s).brfact = s.brfact := rfl
@[simp] theorem clearWritten_status (s : State) (v : Word) : (clearWritten v s).status = { s.status with
      done := s.status.done && !v.getLsbD 1
      err := s.status.err && !v.getLsbD 2
      errcode := if v.getLsbD 2 then 0 else s.status.errcode } := rfl
@[simp] theorem clearWritten_irqen (s : State) (v : Word) : (clearWritten v s).irqen = s.irqen := rfl
@[simp] theorem clearWritten_opa (s : State) (v : Word) : (clearWritten v s).opa = s.opa := rfl
@[simp] theorem clearWritten_opb (s : State) (v : Word) : (clearWritten v s).opb = s.opb := rfl
@[simp] theorem clearWritten_acc (s : State) (v : Word) : (clearWritten v s).acc = s.acc := rfl
@[simp] theorem clearWritten_res (s : State) (v : Word) : (clearWritten v s).res = s.res := rfl
@[simp] theorem clearWritten_ram (s : State) (v : Word) : (clearWritten v s).ram = s.ram := rfl
@[simp] theorem clearWritten_pending (s : State) (v : Word) : (clearWritten v s).pending = s.pending := rfl
@[simp] theorem clearWritten_rstN (s : State) (v : Word) : (clearWritten v s).rstN = s.rstN := rfl
@[simp] theorem clearWritten_inputs (s : State) (v : Word) : (clearWritten v s).inputs = s.inputs := rfl
@[simp] theorem clearWritten_response (s : State) (v : Word) : (clearWritten v s).response = s.response := rfl

/-! ## `begin` -/

@[simp] theorem begin_params (s : State) (i : Instr) : (begin i s).params = s.params := rfl
@[simp] theorem begin_ctrl (s : State) (i : Instr) : (begin i s).ctrl = s.ctrl := rfl
@[simp] theorem begin_len (s : State) (i : Instr) : (begin i s).len = s.len := rfl
@[simp] theorem begin_twmod (s : State) (i : Instr) : (begin i s).twmod = s.twmod := rfl
@[simp] theorem begin_brfact (s : State) (i : Instr) : (begin i s).brfact = s.brfact := rfl
@[simp] theorem begin_status (s : State) (i : Instr) : (begin i s).status = { s.status with busy := true } := rfl
@[simp] theorem begin_irqen (s : State) (i : Instr) : (begin i s).irqen = s.irqen := rfl
@[simp] theorem begin_opa (s : State) (i : Instr) : (begin i s).opa = s.opa := rfl
@[simp] theorem begin_opb (s : State) (i : Instr) : (begin i s).opb = s.opb := rfl
@[simp] theorem begin_acc (s : State) (i : Instr) : (begin i s).acc = s.acc := rfl
@[simp] theorem begin_res (s : State) (i : Instr) : (begin i s).res = s.res := rfl
@[simp] theorem begin_ram (s : State) (i : Instr) : (begin i s).ram = s.ram := rfl
@[simp] theorem begin_pending (s : State) (i : Instr) : (begin i s).pending = some (pendingOf i s) := rfl
@[simp] theorem begin_rstN (s : State) (i : Instr) : (begin i s).rstN = s.rstN := rfl
@[simp] theorem begin_inputs (s : State) (i : Instr) : (begin i s).inputs = s.inputs := rfl
@[simp] theorem begin_response (s : State) (i : Instr) : (begin i s).response = s.response := rfl

/-! ## `complete` -/

@[simp] theorem complete_params (s : State) : (complete s).params = s.params := rfl
@[simp] theorem complete_ctrl (s : State) : (complete s).ctrl = s.ctrl := rfl
@[simp] theorem complete_len (s : State) : (complete s).len = s.len := rfl
@[simp] theorem complete_twmod (s : State) : (complete s).twmod = s.twmod := rfl
@[simp] theorem complete_brfact (s : State) : (complete s).brfact = s.brfact := rfl
@[simp] theorem complete_status (s : State) : (complete s).status = { s.status with busy := false, done := true } := rfl
@[simp] theorem complete_irqen (s : State) : (complete s).irqen = s.irqen := rfl
@[simp] theorem complete_opa (s : State) : (complete s).opa = s.opa := rfl
@[simp] theorem complete_opb (s : State) : (complete s).opb = s.opb := rfl
@[simp] theorem complete_acc (s : State) : (complete s).acc = s.acc := rfl
@[simp] theorem complete_res (s : State) : (complete s).res = s.res := rfl
@[simp] theorem complete_ram (s : State) : (complete s).ram = s.ram := rfl
@[simp] theorem complete_pending (s : State) : (complete s).pending = none := rfl
@[simp] theorem complete_rstN (s : State) : (complete s).rstN = s.rstN := rfl
@[simp] theorem complete_inputs (s : State) : (complete s).inputs = s.inputs := rfl
@[simp] theorem complete_response (s : State) : (complete s).response = s.response := rfl

/-! ## `passOf` -/

@[simp] theorem passOf_params (s : State) (d : Dir) (p : Pending) : (passOf d p s).params = s.params := rfl
@[simp] theorem passOf_ctrl (s : State) (d : Dir) (p : Pending) : (passOf d p s).ctrl = s.ctrl := rfl
@[simp] theorem passOf_len (s : State) (d : Dir) (p : Pending) : (passOf d p s).len = s.len := rfl
@[simp] theorem passOf_twmod (s : State) (d : Dir) (p : Pending) : (passOf d p s).twmod = s.twmod := rfl
@[simp] theorem passOf_brfact (s : State) (d : Dir) (p : Pending) : (passOf d p s).brfact = s.brfact := rfl
@[simp] theorem passOf_status (s : State) (d : Dir) (p : Pending) : (passOf d p s).status = s.status := rfl
@[simp] theorem passOf_irqen (s : State) (d : Dir) (p : Pending) : (passOf d p s).irqen = s.irqen := rfl
@[simp] theorem passOf_opa (s : State) (d : Dir) (p : Pending) : (passOf d p s).opa = s.opa := rfl
@[simp] theorem passOf_opb (s : State) (d : Dir) (p : Pending) : (passOf d p s).opb = s.opb := rfl
@[simp] theorem passOf_acc (s : State) (d : Dir) (p : Pending) : (passOf d p s).acc = s.acc := rfl
@[simp] theorem passOf_res (s : State) (d : Dir) (p : Pending) : (passOf d p s).res = s.res := rfl
@[simp] theorem passOf_ram (s : State) (d : Dir) (p : Pending) :
    (passOf d p s).ram = runPass s.params d p.length p.twiddleModifier s.ram := rfl
@[simp] theorem passOf_pending (s : State) (d : Dir) (p : Pending) : (passOf d p s).pending = s.pending := rfl
@[simp] theorem passOf_rstN (s : State) (d : Dir) (p : Pending) : (passOf d p s).rstN = s.rstN := rfl
@[simp] theorem passOf_inputs (s : State) (d : Dir) (p : Pending) : (passOf d p s).inputs = s.inputs := rfl
@[simp] theorem passOf_response (s : State) (d : Dir) (p : Pending) : (passOf d p s).response = s.response := rfl

/-! ## `reversalOf` -/

@[simp] theorem reversalOf_params (s : State) (p : Pending) : (reversalOf p s).params = s.params := rfl
@[simp] theorem reversalOf_ctrl (s : State) (p : Pending) : (reversalOf p s).ctrl = s.ctrl := rfl
@[simp] theorem reversalOf_len (s : State) (p : Pending) : (reversalOf p s).len = s.len := rfl
@[simp] theorem reversalOf_twmod (s : State) (p : Pending) : (reversalOf p s).twmod = s.twmod := rfl
@[simp] theorem reversalOf_brfact (s : State) (p : Pending) : (reversalOf p s).brfact = s.brfact := rfl
@[simp] theorem reversalOf_status (s : State) (p : Pending) : (reversalOf p s).status = s.status := rfl
@[simp] theorem reversalOf_irqen (s : State) (p : Pending) : (reversalOf p s).irqen = s.irqen := rfl
@[simp] theorem reversalOf_opa (s : State) (p : Pending) : (reversalOf p s).opa = s.opa := rfl
@[simp] theorem reversalOf_opb (s : State) (p : Pending) : (reversalOf p s).opb = s.opb := rfl
@[simp] theorem reversalOf_acc (s : State) (p : Pending) : (reversalOf p s).acc = s.acc := rfl
@[simp] theorem reversalOf_res (s : State) (p : Pending) : (reversalOf p s).res = s.res := rfl
@[simp] theorem reversalOf_ram (s : State) (p : Pending) :
    (reversalOf p s).ram = runReversal s.params p.length p.reversalFactor s.ram := rfl
@[simp] theorem reversalOf_pending (s : State) (p : Pending) : (reversalOf p s).pending = s.pending := rfl
@[simp] theorem reversalOf_rstN (s : State) (p : Pending) : (reversalOf p s).rstN = s.rstN := rfl
@[simp] theorem reversalOf_inputs (s : State) (p : Pending) : (reversalOf p s).inputs = s.inputs := rfl
@[simp] theorem reversalOf_response (s : State) (p : Pending) : (reversalOf p s).response = s.response := rfl

/-! ## `transformOf`: only the RAM changes -/

theorem transformOf_eq_withRam (s : State) (p : Pending) :
    transformOf p s = s.withRam (transformOf p s).ram := by
  unfold transformOf passOf reversalOf State.withRam
  cases p.br <;> rfl

@[simp] theorem transformOf_params (s : State) (p : Pending) : (transformOf p s).params = s.params := by
  rw [transformOf_eq_withRam]; rfl
@[simp] theorem transformOf_ctrl (s : State) (p : Pending) : (transformOf p s).ctrl = s.ctrl := by
  rw [transformOf_eq_withRam]; rfl
@[simp] theorem transformOf_len (s : State) (p : Pending) : (transformOf p s).len = s.len := by
  rw [transformOf_eq_withRam]; rfl
@[simp] theorem transformOf_twmod (s : State) (p : Pending) : (transformOf p s).twmod = s.twmod := by
  rw [transformOf_eq_withRam]; rfl
@[simp] theorem transformOf_brfact (s : State) (p : Pending) : (transformOf p s).brfact = s.brfact := by
  rw [transformOf_eq_withRam]; rfl
@[simp] theorem transformOf_status (s : State) (p : Pending) : (transformOf p s).status = s.status := by
  rw [transformOf_eq_withRam]; rfl
@[simp] theorem transformOf_irqen (s : State) (p : Pending) : (transformOf p s).irqen = s.irqen := by
  rw [transformOf_eq_withRam]; rfl
@[simp] theorem transformOf_opa (s : State) (p : Pending) : (transformOf p s).opa = s.opa := by
  rw [transformOf_eq_withRam]; rfl
@[simp] theorem transformOf_opb (s : State) (p : Pending) : (transformOf p s).opb = s.opb := by
  rw [transformOf_eq_withRam]; rfl
@[simp] theorem transformOf_acc (s : State) (p : Pending) : (transformOf p s).acc = s.acc := by
  rw [transformOf_eq_withRam]; rfl
@[simp] theorem transformOf_res (s : State) (p : Pending) : (transformOf p s).res = s.res := by
  rw [transformOf_eq_withRam]; rfl
@[simp] theorem transformOf_pending (s : State) (p : Pending) : (transformOf p s).pending = s.pending := by
  rw [transformOf_eq_withRam]; rfl
@[simp] theorem transformOf_rstN (s : State) (p : Pending) : (transformOf p s).rstN = s.rstN := by
  rw [transformOf_eq_withRam]; rfl
@[simp] theorem transformOf_inputs (s : State) (p : Pending) : (transformOf p s).inputs = s.inputs := by
  rw [transformOf_eq_withRam]; rfl
@[simp] theorem transformOf_response (s : State) (p : Pending) : (transformOf p s).response = s.response := by
  rw [transformOf_eq_withRam]; rfl

/-! ## Bytes and words of the RAM -/

@[simp] theorem Ram.writeByte_era (r : Ram) (a : Nat) (v : Byte) : (r.writeByte a v).era = r.era := rfl
@[simp] theorem Ram.writeByte_cells (r : Ram) (a : Nat) (v : Byte) :
    (r.writeByte a v).cells = Memory.insert r.cells a v := rfl
@[simp] theorem Ram.writeWord_era (r : Ram) (w : Nat) (v : Word) : (r.writeWord w v).era = r.era := by
  simp only [Ram.writeWord, Ram.writeByte_era]
@[simp] theorem Ram.setSample_era (r : Ram) (i : Nat) (x : Cplx) : (r.setSample i x).era = r.era := by
  simp only [Ram.setSample, Ram.writeWord_era]
@[simp] theorem writeQuad_era (r : Ram) (b : Bfly) (q : Quad) : (writeQuad r b q).era = r.era := by
  simp only [writeQuad, Ram.setSample_era]
@[simp] theorem runBfly_era (p : Params) (d : Dir) (r : Ram) (b : Bfly) : (runBfly p d r b).era = r.era := by
  simp only [runBfly, writeQuad_era]
@[simp] theorem swapSamples_era (r : Ram) (i j : Nat) : (swapSamples r i j).era = r.era := by
  simp only [swapSamples, Ram.setSample_era]

end Sys2Proof.Machine
end

