-- ==== Sys2Proof/Laws/Memory.lean ====
section
/-! SUPPORT. The basic laws of memory: a read after a write, what a write leaves alone, and the canonical form that every
memory operation keeps. -/

namespace Sys2Proof.Machine

/-! ## The list of bytes -/

theorem Memory.lookup_insert (m : Memory) (x y : Nat) (v : Byte) :
    Memory.lookup (Memory.insert m x v) y = if y = x then some v else Memory.lookup m y := by
  induction m with
  | nil => simp only [Memory.insert, Memory.lookup, eq_comm]
  | cons c m ih =>
    obtain ⟨a, b⟩ := c
    have hxy : (if x = y then some v else Memory.lookup ((a, b) :: m) y) =
        if y = x then some v else Memory.lookup ((a, b) :: m) y := if_congr eq_comm rfl rfl
    rcases Nat.lt_trichotomy x a with h | rfl | h
    · rw [Memory.insert, if_pos h, ← hxy, Memory.lookup]
    · rw [Memory.insert, if_neg (Nat.lt_irrefl x), if_pos rfl, ← hxy, Memory.lookup, Memory.lookup]
      by_cases h : x = y <;> simp only [h, if_true, if_false]
    · rw [Memory.insert, if_neg (by omega), if_neg (by omega), Memory.lookup, ih, Memory.lookup]
      by_cases h' : a = y
      · rw [if_pos h', if_neg (by omega), if_pos h']
      · rw [if_neg h', if_neg h']

theorem Memory.mem_insert {m : Memory} {x : Nat} {v : Byte} {c : Host.Cell} (h : c ∈ Memory.insert m x v) :
    c = (x, v) ∨ c ∈ m := by
  induction m with
  | nil => simpa [Memory.insert] using h
  | cons d m ih =>
    obtain ⟨a, b⟩ := d
    simp only [Memory.insert] at h
    split_ifs at h <;> simp only [List.mem_cons] at h ⊢ <;> tauto

/-- Writing a byte keeps the canonical form. -/
theorem Memory.insert_wf {m : Memory} (h : Memory.wf m) (x : Nat) (v : Byte) : Memory.wf (Memory.insert m x v) := by
  induction m with
  | nil => simp [Memory.insert]
  | cons c m ih =>
    obtain ⟨a, b⟩ := c
    obtain ⟨h₁, h₂⟩ := List.pairwise_cons.1 h
    simp only [Memory.insert]
    split_ifs with hlt heq
    · refine List.pairwise_cons.2 ⟨fun d hd => ?_, h⟩
      rcases List.mem_cons.1 hd with rfl | hd
      · exact hlt
      · exact lt_trans hlt (h₁ d hd)
    · subst heq
      exact List.pairwise_cons.2 ⟨fun d hd => h₁ d hd, h₂⟩
    · refine List.pairwise_cons.2 ⟨fun d hd => ?_, ih h₂⟩
      rcases Memory.mem_insert hd with rfl | hd
      · exact lt_of_le_of_ne (not_lt.1 hlt) (Ne.symm heq)
      · exact h₁ d hd

theorem Memory.lookup_eq_none_of_lt {m : Memory} {x : Nat} (h : ∀ c ∈ m, x < c.1) : Memory.lookup m x = none := by
  induction m with
  | nil => rfl
  | cons c m ih =>
    obtain ⟨a, b⟩ := c
    have ha : x < a := h (a, b) (by simp)
    rw [Memory.lookup, if_neg (by omega)]
    exact ih fun d hd => h d (by simp [hd])

/-- Equal memories are equal lists: two canonical lists that read alike are one list. -/
theorem Memory.eq_of_lookup : ∀ {m n : Memory}, Memory.wf m → Memory.wf n →
    (∀ x, Memory.lookup m x = Memory.lookup n x) → m = n
  | [], [], _, _, _ => rfl
  | [], (a, b) :: n, _, _, h => by simpa [Memory.lookup] using h a
  | (a, b) :: m, [], _, _, h => by simpa [Memory.lookup] using h a
  | (a, b) :: m, (c, d) :: n, hm, hn, h => by
    obtain ⟨hm₁, hm₂⟩ := List.pairwise_cons.1 hm
    obtain ⟨hn₁, hn₂⟩ := List.pairwise_cons.1 hn
    have hac : a = c := by
      rcases lt_trichotomy a c with hlt | heq | hgt
      · have := h a
        rw [Memory.lookup_eq_none_of_lt (m := (c, d) :: n)] at this
        · simp [Memory.lookup] at this
        · intro e he
          rcases List.mem_cons.1 he with rfl | he
          · exact hlt
          · exact lt_trans hlt (hn₁ e he)
      · exact heq
      · have := h c
        rw [Memory.lookup_eq_none_of_lt (m := (a, b) :: m)] at this
        · simp [Memory.lookup] at this
        · intro e he
          rcases List.mem_cons.1 he with rfl | he
          · exact hgt
          · exact lt_trans hgt (hm₁ e he)
    subst hac
    have hbd : b = d := by simpa [Memory.lookup] using h a
    subst hbd
    have hmn : m = n := Memory.eq_of_lookup hm₂ hn₂ fun x => by
      by_cases hx : a = x
      · subst hx
        rw [Memory.lookup_eq_none_of_lt (m := m) hm₁, Memory.lookup_eq_none_of_lt (m := n) hn₁]
      · simpa [Memory.lookup, hx] using h x
    rw [hmn]

/-! ## Bytes of a word -/

/-- A word is put together from its own bytes (20_memory.md R82). -/
@[simp] theorem wordOf_byteOf (v : Word) : wordOf (byteOf v 0) (byteOf v 1) (byteOf v 2) (byteOf v 3) = v := by
  apply BitVec.eq_of_getLsbD_eq
  intro i hi
  simp only [wordOf, byteOf, BitVec.getLsbD_append, BitVec.getLsbD_extractLsb']
  interval_cases i <;> rfl

theorem byteOf_wordOf (b0 b1 b2 b3 : Byte) :
    byteOf (wordOf b0 b1 b2 b3) 0 = b0 ∧ byteOf (wordOf b0 b1 b2 b3) 1 = b1 ∧
    byteOf (wordOf b0 b1 b2 b3) 2 = b2 ∧ byteOf (wordOf b0 b1 b2 b3) 3 = b3 := by
  refine ⟨?_, ?_, ?_, ?_⟩ <;>
  · apply BitVec.eq_of_getLsbD_eq
    intro i hi
    simp only [wordOf, byteOf, BitVec.getLsbD_append, BitVec.getLsbD_extractLsb']
    interval_cases i <;> simp

/-! ## The RAM -/

theorem Ram.readByte_writeByte (r : Ram) (x y : Nat) (v : Byte) :
    (r.writeByte x v).readByte y = if y = x then v else r.readByte y := by
  simp only [Ram.readByte, Ram.writeByte, Memory.lookup_insert]
  split_ifs <;> rfl

/-- What a word write does to every byte (20_memory.md R78, R82). -/
theorem Ram.readByte_writeWord (r : Ram) (w x : Nat) (v : Word) :
    (r.writeWord w v).readByte x =
      if ramOffset w ≤ x ∧ x < ramOffset w + 4 then byteOf v (x - ramOffset w) else r.readByte x := by
  simp only [Ram.writeWord, Ram.readByte_writeByte]
  by_cases h : ramOffset w ≤ x ∧ x < ramOffset w + 4
  · obtain ⟨k, rfl⟩ := Nat.exists_eq_add_of_le h.1
    have hk : k < 4 := by omega
    interval_cases k <;> simp
  · rw [if_neg h, if_neg (by omega), if_neg (by omega), if_neg (by omega), if_neg (by omega)]

theorem Ram.readByte_writeWord_of_outside {r : Ram} {w x : Nat} {v : Word}
    (h : x < ramOffset w ∨ ramOffset w + 4 ≤ x) : (r.writeWord w v).readByte x = r.readByte x := by
  rw [Ram.readByte_writeWord, if_neg (by omega)]

/-- A read after a write to the same word gives the value written. -/
@[simp] theorem Ram.readWord_writeWord_same (r : Ram) (w : Nat) (v : Word) : (r.writeWord w v).readWord w = v := by
  simp [Ram.readWord, Ram.readByte_writeWord]

/-- A write leaves every other word alone. -/
theorem Ram.readWord_writeWord_of_ne {r : Ram} {w w' : Nat} {v : Word} (h : w' ≠ w) :
    (r.writeWord w v).readWord w' = r.readWord w' := by
  unfold Ram.readWord
  rw [Ram.readByte_writeWord_of_outside, Ram.readByte_writeWord_of_outside, Ram.readByte_writeWord_of_outside,
    Ram.readByte_writeWord_of_outside] <;> simp only [ramOffset] <;> omega

theorem Ram.readWord_writeWord (r : Ram) (w w' : Nat) (v : Word) :
    (r.writeWord w v).readWord w' = if w' = w then v else r.readWord w' := by
  split_ifs with h
  · subst h; exact Ram.readWord_writeWord_same _ _ _
  · exact Ram.readWord_writeWord_of_ne h

/-- A sample written is the sample read; every other sample is left alone. -/
theorem Ram.sample_setSample (r : Ram) (i j : Nat) (x : Cplx) :
    (r.setSample i x).sample j = if j = i then x else r.sample j := by
  simp only [Ram.sample, Ram.setSample, Ram.readWord_writeWord]
  split_ifs <;> first | omega | rfl

theorem Ram.readByte_setSample_of_outside {r : Ram} {i a : Nat} {x : Cplx}
    (h : a < ramStart + 8 * i ∨ ramStart + 8 * i + 8 ≤ a) : (r.setSample i x).readByte a = r.readByte a := by
  unfold Ram.setSample
  rw [Ram.readByte_writeWord_of_outside, Ram.readByte_writeWord_of_outside] <;> simp only [ramOffset] <;> omega

/-! ## The canonical form is kept -/

theorem Ram.writeByte_wf {r : Ram} (h : Memory.wf r.cells) (a : Nat) (v : Byte) :
    Memory.wf (r.writeByte a v).cells := Memory.insert_wf h a v

theorem Ram.writeWord_wf {r : Ram} (h : Memory.wf r.cells) (w : Nat) (v : Word) : Memory.wf (r.writeWord w v).cells := by
  unfold Ram.writeWord
  exact Ram.writeByte_wf (Ram.writeByte_wf (Ram.writeByte_wf (Ram.writeByte_wf h _ _) _ _) _ _) _ _

theorem Ram.setSample_wf {r : Ram} (h : Memory.wf r.cells) (i : Nat) (x : Cplx) : Memory.wf (r.setSample i x).cells := by
  unfold Ram.setSample
  exact Ram.writeWord_wf (Ram.writeWord_wf h _ _) _ _

theorem writeQuad_wf {r : Ram} (h : Memory.wf r.cells) (b : Bfly) (q : Quad) : Memory.wf (writeQuad r b q).cells := by
  unfold writeQuad
  exact Ram.setSample_wf (Ram.setSample_wf (Ram.setSample_wf (Ram.setSample_wf h _ _) _ _) _ _) _ _

theorem runStage_wf (p : Params) (d : Dir) (stage : List Bfly) :
    ∀ {r : Ram}, Memory.wf r.cells → Memory.wf (runStage p d r stage).cells := by
  induction stage with
  | nil => exact fun h => h
  | cons b stage ih =>
    intro r h
    unfold runStage
    rw [List.foldl_cons]
    exact ih (writeQuad_wf h _ _)

/-- A butterfly pass keeps the canonical form. -/
theorem runPass_wf (p : Params) (d : Dir) (n m : Nat) {r : Ram} (h : Memory.wf r.cells) :
    Memory.wf (runPass p d n m r).cells := by
  unfold runPass
  generalize passStages n m = stages
  induction stages generalizing r with
  | nil => exact h
  | cons stage stages ih =>
    rw [List.foldl_cons]
    exact ih (runStage_wf p d stage h)

/-- A bit-reversal pass keeps the canonical form. -/
theorem runReversal_wf (p : Params) (n f : Nat) {r : Ram} (h : Memory.wf r.cells) :
    Memory.wf (runReversal p n f r).cells := by
  unfold runReversal
  generalize List.range n = is
  induction is generalizing r with
  | nil => exact h
  | cons i is ih =>
    rw [List.foldl_cons]
    refine ih ?_
    unfold reversalTurn swapSamples
    split_ifs
    · exact Ram.setSample_wf (Ram.setSample_wf h _ _) _ _
    · exact h

/-- The memory of the machine after reset has the canonical form. -/
theorem reset_memory_wf : Memory.wf State.reset.ram.cells := List.Pairwise.nil

end Sys2Proof.Machine
end

