-- ==== Sys2Proof/Laws/Ops.lean ====
section
/-! SUPPORT. One lemma per shared operation that says once everything it can do. -/

namespace Sys2Proof.Machine

/-! ## Parameters -/

theorem Params.nmax_pos (p : Params) : 0 < p.nmax := Nat.pow_pos (by norm_num)

theorem Params.log4Nmax_le (p : Params) : 1 ≤ p.log4Nmax ∧ p.log4Nmax ≤ 6 := by
  have := p.size.isLt
  unfold Params.log4Nmax
  omega

theorem Params.nmax_bounds (p : Params) : 4 ≤ p.nmax ∧ p.nmax ≤ 4096 := by
  obtain ⟨h₁, h₂⟩ := Params.log4Nmax_le p
  exact ⟨(Nat.pow_le_pow_right (by norm_num) h₁ : 4 ^ 1 ≤ 4 ^ p.log4Nmax),
    (Nat.pow_le_pow_right (by norm_num) h₂ : 4 ^ p.log4Nmax ≤ 4 ^ 6)⟩

/-- A legal length lies between 4 and NMAX (00_scope.md R7). -/
theorem legalLength_bounds {p : Params} {n : Nat} (h : p.LegalLength n) : 4 ≤ n ∧ n ≤ p.nmax := by
  obtain ⟨e, h₁, h₂, rfl⟩ := h
  exact ⟨Nat.pow_le_pow_right (n := 4) (i := 1) (by norm_num) h₁, Nat.pow_le_pow_right (by norm_num) h₂⟩

/-! ## Commands -/

theorem runCommand_of_none {i : Instr} {f : Pending → State → State} {s : State} (h : s.pending = none) :
    runCommand i f s = .next (accept i s) := by
  simp only [runCommand, h]

theorem runCommand_of_some {i : Instr} {f : Pending → State → State} {s : State} {p : Pending}
    (h : s.pending = some p) : runCommand i f s = .next (complete (f p s)) := by
  simp only [runCommand, h]

/-- With nothing pending every command is presented for acceptance (43_dispatcher.md R230). -/
theorem exec_of_none {i : Instr} {s : State} (h : s.pending = none) : exec i s = .next (accept i s) := by
  cases i <;> simp only [exec, execNop, execXform, execBflyFwd, execBflyInv, execBitrev, execMacClr, execMacMul,
    execMacMla, execMacMls, execMacRdw, execMacRds, runCommand_of_none h]

/-- `complete` in the words of the claims. -/
theorem complete_eq (s : State) : complete s = completedState s := rfl

/-- SUPPORTED as a predicate (00_scope.md R7). -/
theorem supported_iff {p : Params} {v : Word} : supported p v = true ↔ p.LegalLength v.toNat := by
  unfold supported Params.LegalLength
  simp only [List.any_eq_true, List.mem_range, beq_iff_eq]
  constructor
  · rintro ⟨e, he, h⟩
    exact ⟨e + 1, by omega, by omega, h⟩
  · rintro ⟨e, h₁, h₂, h⟩
    exact ⟨e - 1, by omega, by rw [h]; congr 1; omega⟩

theorem usesLen_iff {i : Instr} : usesLen i = true ↔ i.UsesLen := by
  cases i <;> simp [usesLen, Instr.UsesLen]

theorem runsBfly_iff {i : Instr} : runsBfly i = true ↔ i.RunsBfly := by
  cases i <;> simp [runsBfly, Instr.RunsBfly]

theorem runsBitrev_iff {i : Instr} {c : Ctrl} : runsBitrev i c = true ↔ i.RunsBitrev c.bitrev := by
  cases i <;> simp [runsBitrev, Instr.RunsBitrev]

/-- CHECK passes exactly when every check the command is subject to does (43_dispatcher.md R231). -/
theorem check_eq_none_iff {i : Instr} {s : State} :
    check i s = none ↔ (i.UsesLen → s.params.LegalLength s.len.toNat) ∧
      (i.RunsBfly → s.twmod.toNat * s.len.toNat = s.params.nmax) ∧
      (i.RunsBitrev s.ctrl.bitrev → s.brfact.toNat * s.len.toNat = s.params.nmax) := by
  rw [← usesLen_iff, ← runsBfly_iff, ← runsBitrev_iff, ← supported_iff]
  unfold check
  cases usesLen i <;> cases supported s.params s.len <;> cases runsBfly i <;> cases runsBitrev i s.ctrl <;>
    simp <;> split_ifs <;> simp_all

/-- ACCEPT of a legal command either begins it or reports one error (43_dispatcher.md R230). -/
theorem accept_cases (i : Instr) (s : State) :
    (check i s = none ∧ accept i s = acceptedState i s) ∨
    ∃ e, check i s = some e ∧ accept i s = raiseCmdError e (clearOutcome s) := by
  have h : check i (clearOutcome s) = check i s := rfl
  unfold accept
  rw [h]
  cases check i s with
  | none => exact .inl ⟨rfl, rfl⟩
  | some e => exact .inr ⟨e, rfl, rfl⟩

/-! What each command's completion leaves (70_reset_and_hazards.md R303). -/

section Completion

variable {s : State} {p : Pending} (h : s.pending = some p)
include h

theorem exec_nop_of_some : exec .nop s = .next (complete s) := by
  simp only [exec, execNop, runCommand_of_some h]

theorem exec_xform_of_some : exec .xform s = .next (complete (transformOf p s)) := by
  simp only [exec, execXform, runCommand_of_some h]

theorem exec_bflyFwd_of_some : exec .bflyFwd s = .next (complete (passOf .fwd p s)) := by
  simp only [exec, execBflyFwd, runCommand_of_some h]

theorem exec_bflyInv_of_some : exec .bflyInv s = .next (complete (passOf .inv p s)) := by
  simp only [exec, execBflyInv, runCommand_of_some h]

theorem exec_bitrev_of_some : exec .bitrev s = .next (complete (reversalOf p s)) := by
  simp only [exec, execBitrev, runCommand_of_some h]

theorem exec_macClr_of_some : exec .macClr s = .next (complete (s.withAcc 0)) := by
  simp only [exec, execMacClr, runCommand_of_some h]

theorem exec_macMul_of_some : exec .macMul s = .next (complete (s.withAcc (u64 (prod s.opa s.opb)))) := by
  simp only [exec, execMacMul, runCommand_of_some h]

theorem exec_macMla_of_some : exec .macMla s = .next (complete (s.withAcc (u64 (wrap64 (s64 s.acc + prod s.opa s.opb))))) := by
  simp only [exec, execMacMla, runCommand_of_some h]

theorem exec_macMls_of_some : exec .macMls s = .next (complete (s.withAcc (u64 (wrap64 (s64 s.acc - prod s.opa s.opb))))) := by
  simp only [exec, execMacMls, runCommand_of_some h]

theorem exec_macRdw_of_some (sh : Nat) : exec (.macRdw sh) s = .next (complete (s.withRes (u32 (wrap32 (sra (s64 s.acc) sh))))) := by
  simp only [exec, execMacRdw, runCommand_of_some h]

theorem exec_macRds_of_some (sh : Nat) : exec (.macRds sh) s = .next (complete (s.withRes (u32 (sat32 (sra (s64 s.acc) sh))))) := by
  simp only [exec, execMacRds, runCommand_of_some h]

end Completion

/-! ## The address map -/

theorem offsetOf_base_add {p : Params} {off : Nat} (h : off < 0x20000) : offsetOf p (p.base + off) = some off := by
  unfold offsetOf windowBytes
  rw [if_pos ⟨by omega, by omega⟩]
  congr 1
  omega

theorem offsetOf_eq_some {p : Params} {a off : Nat} : offsetOf p a = some off ↔ a = p.base + off ∧ off < 0x20000 := by
  constructor
  · intro h
    unfold offsetOf windowBytes at h
    split_ifs at h with hc
    cases h
    omega
  · rintro ⟨rfl, h⟩
    exact offsetOf_base_add h

theorem regAt_eq_some {off : Nat} {r : Reg} : regAt off = some r ↔ off = r.offset := by
  constructor
  · intro h
    unfold regAt at h
    split at h <;> cases h <;> rfl
  · rintro rfl
    cases r <;> rfl

/-- What stands at an offset, place by place (20_memory.md R71). -/
theorem placeAt_eq_some {p : Params} {off : Nat} {l : Place} : placeAt p off = some l ↔
    (match l with
      | .reg r => off = r.offset
      | .ram w => 0x8000 ≤ off ∧ off < 0x8000 + 8 * p.nmax ∧ w = (off - 0x8000) / 4
      | .tw w => 0x10000 ≤ off ∧ off < 0x10000 + 6 * p.nmax ∧ w = (off - 0x10000) / 4
      | .br i => 0x18000 ≤ off ∧ off < 0x18000 + 4 * p.nmax ∧ i = (off - 0x18000) / 4) := by
  obtain ⟨-, hn⟩ := Params.nmax_bounds p
  unfold placeAt ramStart twStart brStart
  cases l with
  | reg r =>
    have hr : r.offset < 0x8000 := by cases r <;> decide
    split_ifs <;> simp [regAt_eq_some] <;> omega
  | ram w => split_ifs <;> simp <;> omega
  | tw w => split_ifs <;> simp <;> omega
  | br w => split_ifs <;> simp <;> omega

/-! ## The host port -/

/-- The guard lets a transaction through to a place exactly when it has the width, the alignment and the mapping, and the
place is not locked (20_memory.md R73, R75, R81). -/
theorem admitted_eq_some {n off : Nat} {s : State} {l : Place} :
    admitted n off s = some l ↔
      n = 4 ∧ off % 4 = 0 ∧ placeAt s.params off = some l ∧ ¬(s.status.busy = true ∧ l.guarded = true) := by
  unfold admitted
  by_cases h : n ≠ 4 ∨ off % 4 ≠ 0
  · rw [if_pos h]
    constructor
    · intro hl; cases hl
    · tauto
  · rw [if_neg h]
    rw [not_or, not_not, not_not] at h
    cases hp : placeAt s.params off with
    | none => simp
    | some l' =>
      simp only [Bool.and_eq_true]
      split_ifs with hg
      · constructor
        · intro hl; cases hl
        rintro ⟨-, -, hl, hng⟩
        cases hl
        exact hng hg
      · simp only [Option.some.injEq]
        exact ⟨fun hl => ⟨h.1, h.2, hl, hl ▸ hg⟩, fun hl => hl.2.2.1⟩

/-- Everything a host transaction that gives a next state can be: a bus error, a read, a presented word, or a store. -/
theorem hostAccess_next {t : Txn} {s u : State} (h : hostAccess t s = .next u) :
    ∃ off, t.addr = s.params.base + off ∧ off < 0x20000 ∧
      ((admitted t.bytes off s = none ∧ u = raiseBusError s) ∨
      ∃ l, admitted t.bytes off s = some l ∧
        ((∃ a n, t = .read a n ∧ u = s.withResponse (.data (readPlace l s))) ∨
        ∃ a n v, t = .write a n v ∧
          ((l = .reg .cmd ∧ presentWord v (s.withResponse .written) = .next u) ∨
          (l ≠ .reg .cmd ∧ storePlace l v s = none ∧ u = raiseBusError s) ∨
          ∃ x, l ≠ .reg .cmd ∧ storePlace l v s = some x ∧ u = x.withResponse .written))) := by
  unfold hostAccess at h
  cases ho : offsetOf s.params t.addr with
  | none => rw [ho] at h; cases h
  | some off =>
    obtain ⟨ha, hlt⟩ := offsetOf_eq_some.1 ho
    refine ⟨off, ha, hlt, ?_⟩
    rw [ho] at h
    simp only at h
    cases hm : admitted t.bytes off s with
    | none => rw [hm] at h; cases h; exact .inl ⟨rfl, rfl⟩
    | some l =>
      rw [hm] at h
      refine .inr ⟨l, rfl, ?_⟩
      cases t with
      | read a n => cases h; exact .inl ⟨a, n, rfl, rfl⟩
      | write a n v =>
        refine .inr ⟨a, n, v, rfl, ?_⟩
        simp only [writeAt] at h
        split_ifs at h with hl
        · exact .inl ⟨hl, h⟩
        · cases hs : storePlace l v s with
          | none => rw [hs] at h; cases h; exact .inr (.inl ⟨hl, rfl, rfl⟩)
          | some x => rw [hs] at h; cases h; exact .inr (.inr ⟨x, hl, rfl, rfl⟩)

/-- What presenting a word does to a block with nothing pending: ILLEGAL_CMD, or acceptance of the decoded command
(43_dispatcher.md R230). -/
theorem presentWord_of_none {w : Word} {s : State} (h : s.pending = none) :
    (∃ e, decode w = .error e ∧ presentWord w s = .next (raiseCmdError .illegalCmd (clearOutcome s))) ∨
    ∃ i, decode w = .ok i ∧ presentWord w s = .next (accept i s) := by
  unfold presentWord
  cases hd : decode w with
  | error e => exact .inl ⟨e, rfl, rfl⟩
  | ok i => exact .inr ⟨i, rfl, exec_of_none h⟩

/-- Everything a step that gives a next state can be: the host's turn out of reset, the sequencer's, or a new level of
rst_n (00_scope.md R11). -/
theorem step_next {s u : State} (h : step s = .next u) :
    (∃ t rest, s.inputs = .host t :: rest ∧ s.rstN = true ∧ hostAccess t (s.withInputs rest) = .next u) ∨
    (∃ rest, (s.inputs = [] ∧ rest = [] ∨ s.inputs = .sequencer :: rest) ∧
      ((∃ p, s.pending = some p ∧ s.rstN = true ∧ exec p.cmd (s.withInputs rest) = .next u) ∨
      ((s.pending = none ∨ s.rstN = false) ∧ u = s.withInputs rest))) ∨
    ∃ level rest, s.inputs = .rstN level :: rest ∧ u = setResetLevel level (s.withInputs rest) := by
  have seq : ∀ rest, sequencerTurn (s.withInputs rest) = .next u →
      (∃ p, s.pending = some p ∧ s.rstN = true ∧ exec p.cmd (s.withInputs rest) = .next u) ∨
      ((s.pending = none ∨ s.rstN = false) ∧ u = s.withInputs rest) := by
    intro rest h
    unfold sequencerTurn at h
    rw [State.withInputs_pending] at h
    cases hp : s.pending with
    | none => rw [hp] at h; cases h; exact .inr ⟨.inl rfl, rfl⟩
    | some p =>
      rw [hp] at h
      dsimp only at h
      by_cases hr : s.rstN = true
      · rw [if_pos (show (s.withInputs rest).rstN = true from hr)] at h
        exact .inl ⟨p, rfl, hr, h⟩
      · rw [if_neg (show ¬(s.withInputs rest).rstN = true from hr)] at h
        cases h
        exact .inr ⟨.inr (by simpa using hr), rfl⟩
  unfold step nextEvent at h
  cases hi : s.inputs with
  | nil => rw [hi] at h; exact .inr (.inl ⟨[], .inl ⟨rfl, rfl⟩, seq [] h⟩)
  | cons e rest =>
    rw [hi] at h
    cases e with
    | host t =>
      change hostTurn t (s.withInputs rest) = _ at h
      unfold hostTurn at h
      by_cases hr : s.rstN = true
      · rw [if_pos (show (s.withInputs rest).rstN = true from hr)] at h
        exact .inl ⟨t, rest, rfl, hr, h⟩
      · rw [if_neg (show ¬(s.withInputs rest).rstN = true from hr)] at h
        cases h
    | sequencer => exact .inr (.inl ⟨rest, .inr rfl, seq rest h⟩)
    | rstN level =>
      simp only [handle] at h
      cases h
      exact .inr (.inr ⟨level, rest, rfl, rfl⟩)

/-! ## A step whose event is the host's -/

/-- Out of reset, a host transaction at the head of the queue is performed (20_memory.md R85). -/
theorem step_host {s : State} {t : Txn} {rest : List Event} (hr : s.rstN = true) (hi : s.inputs = .host t :: rest) :
    step s = hostAccess t (s.withInputs rest) := by
  unfold step nextEvent
  rw [hi]
  change hostTurn t (s.withInputs rest) = _
  unfold hostTurn
  rw [if_pos (show (s.withInputs rest).rstN = true from hr)]

/-- A host write inside the window (20_memory.md R74). -/
theorem step_hostWrite {s : State} {off : Nat} {v : Word} {rest : List Event} (hr : s.rstN = true)
    (hi : s.inputs = hostWrite s.params off v :: rest) (ho : off < 0x20000) :
    step s = match admitted 4 off (s.withInputs rest) with
      | none => .next (raiseBusError (s.withInputs rest))
      | some l => writeAt l v (s.withInputs rest) := by
  rw [step_host hr hi]
  unfold hostAccess
  rw [show offsetOf (s.withInputs rest).params (Txn.write (s.params.base + off) 4 v).addr = some off from
    offsetOf_base_add ho]
  rfl

/-- A host read inside the window (20_memory.md R74). -/
theorem step_hostRead {s : State} {off : Nat} {rest : List Event} (hr : s.rstN = true)
    (hi : s.inputs = hostRead s.params off :: rest) (ho : off < 0x20000) :
    step s = match admitted 4 off (s.withInputs rest) with
      | none => .next (raiseBusError (s.withInputs rest))
      | some l => readAt l (s.withInputs rest) := by
  rw [step_host hr hi]
  unfold hostAccess
  rw [show offsetOf (s.withInputs rest).params (Txn.read (s.params.base + off) 4).addr = some off from
    offsetOf_base_add ho]
  rfl

/-- A register is reached by a word access unless the guard locks it (20_memory.md R81). -/
theorem admitted_reg {s : State} {r : Reg} (h : s.status.busy = false ∨ r.guarded = false) :
    admitted 4 r.offset s = some (.reg r) := by
  rw [admitted_eq_some]
  refine ⟨rfl, by cases r <;> rfl, placeAt_eq_some.2 rfl, ?_⟩
  simp only [Place.guarded]
  rcases h with h | h <;> simp [h]

/-- The sequencer's turn with a command pending is that command's meaning (70_reset_and_hazards.md R303). -/
theorem sequencerTurn_of_some {s : State} {p : Pending} (hr : s.rstN = true) (hp : s.pending = some p) :
    sequencerTurn s = exec p.cmd s := by
  unfold sequencerTurn
  rw [hp]
  dsimp only
  rw [if_pos hr]

end Sys2Proof.Machine
end

