-- ==== Sys2Proof/Laws/PerInstr.lean ====
section
/-! SUPPORT. What is proved command by command: every command's word stands in the opcode map (30_encoding.md R113). -/

namespace Sys2Proof.Laws

/-- The word of a well-formed command is one of the legal words of its row, and of no other row (30_encoding.md R113). -/
def InOneRow.Statement (i : Instr) : Prop :=
  i.wellFormed = true → ∃! r, r ∈ opcodeRows ∧ r.admits (encode i) = true

theorem inOneRow_of_shift (f : Nat → Instr) (hf : ∀ sh, (f sh).wellFormed = shFits sh)
    (h : ∀ sh < 64, opcodeRows.countP (fun r => r.admits (encode (f sh))) = 1) (sh : Nat) :
    (f sh).wellFormed = true → (opcodeRows.filter fun r => r.admits (encode (f sh))).length = 1 := by
  intro hw
  rw [← List.countP_eq_length_filter]
  exact h sh (by simpa [hf, shFits] using hw)

/-- A row is the only one of its kind when the filtered map has one element. -/
theorem existsUnique_of_filter {w : Word} (h : (opcodeRows.filter fun r => r.admits w).length = 1) :
    ∃! r, r ∈ opcodeRows ∧ r.admits w = true := by
  obtain ⟨r, hr⟩ := List.length_eq_one_iff.1 h
  refine ⟨r, List.mem_filter.1 (hr ▸ List.mem_singleton.2 rfl), fun r' hr' => ?_⟩
  have h' : r' ∈ opcodeRows.filter fun r => r.admits w := List.mem_filter.2 ⟨hr'.1, hr'.2⟩
  rw [hr] at h'
  exact List.mem_singleton.1 h'

theorem InOneRow.nop : InOneRow.Statement .nop := fun _ => existsUnique_of_filter (by decide)
theorem InOneRow.xform : InOneRow.Statement .xform := fun _ => existsUnique_of_filter (by decide)
theorem InOneRow.bflyFwd : InOneRow.Statement .bflyFwd := fun _ => existsUnique_of_filter (by decide)
theorem InOneRow.bflyInv : InOneRow.Statement .bflyInv := fun _ => existsUnique_of_filter (by decide)
theorem InOneRow.bitrev : InOneRow.Statement .bitrev := fun _ => existsUnique_of_filter (by decide)
theorem InOneRow.macClr : InOneRow.Statement .macClr := fun _ => existsUnique_of_filter (by decide)
theorem InOneRow.macMul : InOneRow.Statement .macMul := fun _ => existsUnique_of_filter (by decide)
theorem InOneRow.macMla : InOneRow.Statement .macMla := fun _ => existsUnique_of_filter (by decide)
theorem InOneRow.macMls : InOneRow.Statement .macMls := fun _ => existsUnique_of_filter (by decide)

theorem InOneRow.macRdw (sh : Nat) : InOneRow.Statement (.macRdw sh) := fun h =>
  existsUnique_of_filter (inOneRow_of_shift .macRdw (fun _ => rfl) (by decide +kernel) sh h)

theorem InOneRow.macRds (sh : Nat) : InOneRow.Statement (.macRds sh) := fun h =>
  existsUnique_of_filter (inOneRow_of_shift .macRds (fun _ => rfl) (by decide +kernel) sh h)

end Sys2Proof.Laws
end

