-- ==== Sys2Proof/Tests/Slice0.lean ====
section
/-! SUPPORT. Tests: ill-formed terms refused, words written out from the spec's encoding, vectors of
95_test_vectors.md, and a witness for the hypotheses of every statement that has some. -/

-- One theorem at a time: many kernel evaluations at once take a thread each, and threads are short under a memory limit.
set_option Elab.async false

namespace Sys2Proof.Machine

/-! ## Helpers -/

/-- The state a step leaves, if it leaves one. -/
def after (o : Outcome) : Option State :=
  match o with
  | .next s => some s
  | .fault _ => none
  | .refused _ => none

/-- A RAM whose first words are the given ones. -/
def ramOf (ws : List Word) : Ram :=
  (ws.zipIdx).foldl (fun r x => r.writeWord x.2 x.1) ⟨0, []⟩

/-- A parameter set that is not the one of reset: NMAX = 16, BASE = 0x60000. -/
def smallParams : Params := { size := 1, basePage := 3 }

/-- An idle block with NMAX = 16, about to see the given events. -/
def idleState (es : List Event) : State :=
  { State.reset with params := smallParams, len := 4, twmod := 4, brfact := 4, inputs := es }

/-- A block with NMAX = 1024 that has accepted a command of length n, with TWMOD = BRFACT = 1024 / n and CTRL = 0. -/
def pendingState (i : Instr) (n : Nat) (x : List Word) : State :=
  let m := BitVec.ofNat 32 (1024 / n)
  let l := BitVec.ofNat 32 n
  { State.reset with
    len := l
    twmod := m
    brfact := m
    status := ⟨true, false, false, 0⟩
    ram := ramOf x
    pending := some ⟨i, l, m, m, false, false⟩ }

/-- A block that has accepted a MAC command. -/
def macState (i : Instr) (a b : Word) (c : AccWord) : State :=
  { pendingState i 4 [] with opa := a, opb := b, acc := c }

/-- The first words of the RAM a step leaves. -/
def wordsAfter (o : Outcome) (n : Nat) : Option (List Word) :=
  (after o).map fun s => (List.range n).map s.ram.readWord

/-- The STATUS word a step leaves. -/
def statusAfter (o : Outcome) : Option Word := (after o).map fun s => statusWord s.status

/-! ## Well-formedness: each ill-formed term is refused -/

theorem test_rdw_shift_too_wide : (Instr.macRdw 64).wellFormed = false := by decide
theorem test_rds_shift_too_wide : (Instr.macRds 64).wellFormed = false := by decide
theorem test_rdw_widest_shift : (Instr.macRdw 63).wellFormed = true := by decide

/-! ## Decoding: words written out from 30_encoding.md R110 and R113 (RSV1 18 bits, SH 6, RSV0 3, OP 5) -/

theorem test_decode_nop : decode 0b000000000000000000_000000_000_00000 = .ok .nop := by decide +kernel
theorem test_decode_xform : decode 0b000000000000000000_000000_000_00001 = .ok .xform := by decide +kernel
theorem test_decode_bfly_fwd : decode 0b000000000000000000_000000_000_00010 = .ok .bflyFwd := by decide +kernel
theorem test_decode_bfly_inv : decode 0b000000000000000000_000000_000_00011 = .ok .bflyInv := by decide +kernel
theorem test_decode_bitrev : decode 0b000000000000000000_000000_000_00100 = .ok .bitrev := by decide +kernel
theorem test_decode_mac_clr : decode 0b000000000000000000_000000_000_10000 = .ok .macClr := by decide +kernel
theorem test_decode_mac_mul : decode 0b000000000000000000_000000_000_10001 = .ok .macMul := by decide +kernel
theorem test_decode_mac_mla : decode 0b000000000000000000_000000_000_10010 = .ok .macMla := by decide +kernel
theorem test_decode_mac_mls : decode 0b000000000000000000_000000_000_10011 = .ok .macMls := by decide +kernel
theorem test_decode_mac_rdw : decode 0b000000000000000000_011111_000_10100 = .ok (.macRdw 31) := by decide +kernel
theorem test_decode_mac_rds : decode 0b000000000000000000_111110_000_10101 = .ok (.macRds 62) := by decide +kernel

/-- E-6 to E-9 and M-20: a reserved opcode, RSV0, RSV1, and SH where there is none. -/
theorem test_illegal_words :
    decode 0x00000005 = .error .reservedOpcode ∧ decode 0x00000020 = .error .reservedBits ∧
    decode 0x00004014 = .error .reservedBits ∧ decode 0x00000101 = .error .shiftNotUsed ∧
    decode 0x00000110 = .error .shiftNotUsed := by decide +kernel

/-- The host's two bridges agree with the decoder, on MAC.RDS 31. -/
theorem test_table_word : decodeTableWord 32 0x1F15 = some (.macRds 31) := by decide +kernel

/-- E-1: XFORM as the first command after reset is rejected, because LEN = 0. -/
theorem test_first_command : statusAfter (step (State.reset.withFetchWord 32 0x1)) = some 0x00000204 := by
  decide +kernel

/-! ## One step of each command: rows of 95_test_vectors.md 3.2 to 3.6 -/

/-- E-13: NOP, accepted over a pending error, then completed. -/
theorem test_nop_accept :
    statusAfter (exec .nop { State.reset with status := ⟨false, false, true, 2⟩ }) = some 0x00000001 := by
  decide +kernel

theorem test_nop_complete : statusAfter (exec .nop (pendingState .nop 4 [])) = some 0x00000002 := by decide +kernel

/-- M-1. -/
theorem test_mac_clr : (after (exec .macClr (macState .macClr 0 0 0x123456789ABCDEF0))).map State.acc = some 0 := by
  decide +kernel

/-- E-11: the MAC commands ignore LEN. -/
theorem test_mac_clr_ignores_len : statusAfter (exec .macClr { State.reset with len := 8 }) = some 0x00000001 := by
  decide +kernel

/-- M-3. -/
theorem test_mac_mul_extreme :
    (after (exec .macMul (macState .macMul 0x80000000 0x80000000 0))).map State.acc = some 0x4000000000000000 := by
  decide +kernel

/-- M-4. -/
theorem test_mac_mul_signs :
    (after (exec .macMul (macState .macMul 0x80000000 0x7FFFFFFF 5))).map State.acc = some 0xC000000080000000 := by
  decide +kernel

/-- M-6. -/
theorem test_mac_mla :
    (after (exec .macMla (macState .macMla 0x40000000 0x40000000 0x1000000000000000))).map State.acc =
      some 0x2000000000000000 := by decide +kernel

/-- M-7: ACC wraps. -/
theorem test_mac_mla_wraps :
    (after (exec .macMla (macState .macMla 1 1 0x7FFFFFFFFFFFFFFF))).map State.acc = some 0x8000000000000000 := by
  decide +kernel

/-- M-8: ACC wraps. -/
theorem test_mac_mls_wraps :
    (after (exec .macMls (macState .macMls 1 1 0x8000000000000000))).map State.acc = some 0x7FFFFFFFFFFFFFFF := by
  decide +kernel

/-- M-9. -/
theorem test_mac_mls :
    (after (exec .macMls (macState .macMls 0x40000000 0x20000000 0))).map State.acc = some 0xF800000000000000 := by
  decide +kernel

/-- M-11: RES wraps. -/
theorem test_mac_rdw_wraps :
    (after (exec (.macRdw 31) (macState (.macRdw 31) 0 0 0x4000000000000000))).map State.res = some 0x80000000 := by
  decide +kernel

/-- M-17: the widest shift. -/
theorem test_mac_rdw_widest :
    (after (exec (.macRdw 63) (macState (.macRdw 63) 0 0 0x8000000000000000))).map State.res = some 0xFFFFFFFF := by
  decide +kernel

/-- M-12: RES is clamped. -/
theorem test_mac_rds_clamps :
    (after (exec (.macRds 31) (macState (.macRds 31) 0 0 0x4000000000000000))).map State.res = some 0x7FFFFFFF := by
  decide +kernel

/-- M-14: RES is clamped below. -/
theorem test_mac_rds_clamps_below :
    (after (exec (.macRds 0) (macState (.macRds 0) 0 0 0xFFFFFFFF00000000))).map State.res = some 0x80000000 := by
  decide +kernel

/-- B-3. -/
theorem test_bfly_fwd_four :
    wordsAfter (exec .bflyFwd (pendingState .bflyFwd 4 [1, 2, 3, 4, 5, 6, 7, 8])) 8 =
      some [0x10, 0x14, 0xFFFFFFFC, 0xFFFFFFFC, 0xFFFFFFF8, 0, 0, 0xFFFFFFF8] := by decide +kernel

/-- B-13: two stages and the twiddle multiplies. -/
theorem test_bfly_fwd_sixteen :
    wordsAfter (exec .bflyFwd (pendingState .bflyFwd 16 ([0, 0, 0x10000000, 0] ++ List.replicate 28 0))) 32 =
      some [0x01000000, 0, 0xFF000000, 0, 0, 0xFF000000, 0, 0x01000000,
        0x00B504F3, 0xFF4AFB0C, 0xFF4AFB0D, 0x00B504F4, 0xFF4AFB0C, 0xFF4AFB0D, 0x00B504F4, 0x00B504F3,
        0x00EC835E, 0xFF9E0875, 0xFF137CA2, 0x0061F78B, 0xFF9E0875, 0xFF137CA2, 0x0061F78B, 0x00EC835E,
        0x0061F78A, 0xFF137CA1, 0xFF9E0876, 0x00EC835F, 0xFF137CA1, 0xFF9E0876, 0x00EC835F, 0x0061F78A] := by
  decide +kernel

/-- B-4. -/
theorem test_bfly_inv_four :
    wordsAfter (exec .bflyInv (pendingState .bflyInv 4 [1, 2, 3, 4, 5, 6, 7, 8])) 8 =
      some [0x10, 0x14, 0xFFFFFFFC, 0xFFFFFFFC, 0, 0xFFFFFFF8, 0xFFFFFFF8, 0] := by decide +kernel

/-- B-2. -/
theorem test_bfly_inv_impulse :
    wordsAfter (exec .bflyInv (pendingState .bflyInv 4 [0, 0, 1, 0, 0, 0, 0, 0])) 8 =
      some [1, 0, 0xFFFFFFFF, 0, 0, 1, 0, 0xFFFFFFFF] := by decide +kernel

/-- R-1 and R-5: N = 4 swaps X[1] and X[2], and RAM[8] stays. -/
theorem test_bitrev_four :
    wordsAfter (exec .bitrev (pendingState .bitrev 4 [0, 0, 1, 0, 2, 0, 3, 0, 0xDEADBEEF])) 9 =
      some [0, 0, 2, 0, 1, 0, 3, 0, 0xDEADBEEF] := by decide +kernel

/-- R-2: the real parts for N = 16, and the imaginary part of X[1]. -/
theorem test_bitrev_sixteen :
    (after (exec .bitrev (pendingState .bitrev 16
        ((List.range 16).flatMap fun i => [BitVec.ofNat 32 i, BitVec.ofNat 32 (100 + i)])))).map
        (fun s => ((List.range 16).map fun i => (s.ram.sample i).re, (s.ram.sample 1).im)) =
      some ([0, 8, 4, 12, 2, 10, 6, 14, 1, 9, 5, 13, 3, 11, 7, 15], 108) := by decide +kernel

/-- X-2 and X-3's start, with the two captured CTRL bits. -/
def xformState (inv br : Bool) : State :=
  let s := pendingState .xform 4 [1, 0, 2, 0, 3, 0, 4, 0]
  { s with pending := some ⟨.xform, 4, 256, 256, inv, br⟩ }

/-- X-2. -/
theorem test_xform_forward :
    wordsAfter (exec .xform (xformState false true)) 8 =
      some [0xA, 0, 0xFFFFFFFE, 2, 0xFFFFFFFE, 0, 0xFFFFFFFE, 0xFFFFFFFE] := by decide +kernel

/-- X-4. -/
theorem test_xform_inverse_decimated :
    wordsAfter (exec .xform (xformState true false)) 8 =
      some [0xA, 0, 0xFFFFFFFE, 0, 0xFFFFFFFE, 0xFFFFFFFE, 0xFFFFFFFE, 2] := by decide +kernel

/-! ## Errors, the host port and the ROMs: 95_test_vectors.md 3.6 to 3.8 -/

/-- E-4, and E-10's order. -/
theorem test_rejections :
    statusAfter (exec .xform { State.reset with len := 16, twmod := 64, ctrl := ⟨false, true⟩ }) = some 0x00000404 ∧
    statusAfter (exec .xform { State.reset with len := 8, ctrl := ⟨false, true⟩ }) = some 0x00000204 := by
  decide +kernel

/-- E-12: W1C clears ERR and ERRCODE. -/
theorem test_status_clear :
    statusAfter (step { idleState [hostWrite smallParams 0x01C 4] with status := ⟨false, false, true, 2⟩ }) =
      some 0x00000000 := by decide +kernel

/-- BE-1, BE-2, BE-3, BE-4, BE-5 and BE-12. -/
theorem test_bus_errors :
    ∀ t ∈ [Txn.read 0x60038 4, .write 0x60000 4 0, .read 0x6001C 2, .read 0x6000E 4, .write 0x70000 4 0,
        .write 0x60034 4 0],
      (after (step (idleState [.host t]))).map State.response = some (some .busError) := by decide +kernel

/-- BE-6 to BE-10, with NMAX = 1024 and BASE = 0, while BUSY = 1 (BE-6 in any state). -/
theorem test_busy_accesses :
    ([Txn.read 0xA000 4, .read 0x8000 4, .write 0x18 4 0, .read 0x1C 4, .read 0x10000 4].map fun t =>
      (after (step { pendingState .nop 4 [] with inputs := [.host t] })).bind State.response) =
    [some .busError, some .busError, some .busError, some (.data 1), some (.data 0x7FFFFFFF)] := by decide +kernel

/-- The rows of 3.8, read through the window with NMAX = 1024. -/
theorem test_constants_and_roms :
    ([0x0, 0x4, 0x18, 0x10008, 0x1000C, 0x10200, 0x10204, 0x10804, 0x11000, 0x117F8, 0x117FC, 0x11800, 0x18004,
        0x18554, 0x18FFC].map fun a =>
      (after (step { State.reset with inputs := [.host (.read a 4)] })).bind State.response) =
    [some (.data 0x52344654), some (.data 0x15), some (.data 0), some (.data 0x7FFF6216), some (.data 0xFF36F078),
      some (.data 0x7641AF3D), some (.data 0xCF043AB3), some (.data 0x80000000), some (.data 0x80000000),
      some (.data 0xFF36F078), some (.data 0x7FFF6216), some .busError, some (.data 0x200), some (.data 0x2AA),
      some (.data 0x3FF)] := by decide +kernel

/-- 20_memory.md Appendix A's check value: the sum of its 1536 words mod 2^32. -/
theorem test_appendix_sum :
    ((List.range 768).foldl (fun n m => n + (appendixPair m).re.toNat + (appendixPair m).im.toNat) 0) % 2 ^ 32 =
      111023189 := by decide +kernel

/-- Every fourth pair of the NMAX = 4096 ROM is the pair of Appendix A: their arguments are equal (20_memory.md R92). -/
theorem test_quarter_wave_agrees : ∀ m < 768, quarterPair (4 * m) = appendixPair m := by decide +kernel

/-- E-14 and E-15. -/
theorem test_irq :
    ({ State.reset with status := ⟨false, false, true, 2⟩, irqen := ⟨false, true⟩ } : State).irq = true ∧
    ({ State.reset with status := ⟨false, true, false, 0⟩, irqen := ⟨false, true⟩ } : State).irq = false := by
  decide +kernel


/-! ## Witnesses: concrete values that meet the hypotheses of each statement, at the boundary of each clause -/

theorem idleState_idle (es : List Event) : (idleState es).Idle := ⟨rfl, rfl, rfl⟩

/-- The idle block with a word about to be written to CMD. -/
def cmdState (w : Word) : State := idleState [hostWrite smallParams 0x018 w]

/-- A block with NMAX = 16 that has accepted BFLY.FWD of length 4 on an impulse. -/
def busyState (es : List Event) : State :=
  { idleState es with
    status := ⟨true, false, false, 0⟩
    ram := ramOf [1, 0, 0, 0, 0, 0, 0, 0]
    pending := some ⟨.bflyFwd, 4, 4, 4, false, false⟩ }

theorem impulse_canonical : Memory.wf (busyState []).ram.cells := by decide +kernel

theorem impulse_in_ram : ∀ c ∈ (busyState []).ram.cells,
    ramStart ≤ c.1 ∧ c.1 < ramStart + 8 * (busyState []).params.nmax := by decide +kernel

theorem busyState_inv (es : List Event) : (busyState es).Inv where
  busy_iff := rfl
  busy_clear := fun _ => ⟨rfl, rfl⟩
  one_source := by simp [busyState]
  code_iff := by simp [busyState]
  code_le := Nat.zero_le _
  captured := by
    intro p h
    obtain rfl : ⟨.bflyFwd, 4, 4, 4, false, false⟩ = p := by simpa [busyState] using h
    exact ⟨rfl, by rfl, rfl⟩
  canonical := impulse_canonical
  in_ram := impulse_in_ram
  held := fun h => absurd h (by simp [busyState, idleState, State.reset, State.resetWith])

theorem legal_four : smallParams.LegalLength 4 := ⟨1, by decide, by decide, by decide⟩
theorem legal_sixteen : smallParams.LegalLength 16 := ⟨2, by decide, by decide, by decide⟩

theorem not_legal_of_ne {n : Nat} (h₁ : n ≠ 4) (h₂ : n ≠ 16) : ¬smallParams.LegalLength n := by
  rintro ⟨e, h, h', rfl⟩
  have h'' : e ≤ 2 := h'
  interval_cases e <;> simp_all

theorem witness_DecodeOfEncodeIsIdentity : (Instr.macRds 63).wellFormed = true ∧ Instr.xform.wellFormed = true := by
  decide

theorem witness_EncodeOfDecodeIsIdentity : decode 0x00003F14 = .ok (.macRdw 63) := by decide +kernel

theorem witness_LegalWordsAreTheOpcodeMap :
    ∃ r ∈ opcodeRows, ∃ r' ∈ opcodeRows, (0x00003F15 : Word) &&& r.mask = r.pattern ∧
      (0x00003F15 : Word) &&& r'.mask = r'.pattern := by decide +kernel

/-- One word, at the edge of its range, for each way to be reserved. -/
theorem witness_ReservedWordsRejected :
    (∀ w, (cmdState w).Idle ∧ (cmdState w).inputs = hostWrite (cmdState w).params 0x018 w :: []) ∧
    (0x05 ≤ ((0x05 : Word).extractLsb' 0 5).toNat ∧ ((0x0F : Word).extractLsb' 0 5).toNat ≤ 0x0F) ∧
    (0x16 ≤ ((0x16 : Word).extractLsb' 0 5).toNat ∧ 0x16 ≤ ((0x1F : Word).extractLsb' 0 5).toNat) ∧
    ((0x20 : Word).extractLsb' 5 3 ≠ 0 ∧ (0x80 : Word).extractLsb' 5 3 ≠ 0) ∧
    ((0x4014 : Word).extractLsb' 14 18 ≠ 0 ∧ (0x80000000 : Word).extractLsb' 14 18 ≠ 0) ∧
    ((0x2013 : Word).extractLsb' 8 6 ≠ 0 ∧ (0x2013 : Word).extractLsb' 0 5 ≠ 0x14 ∧
      (0x2013 : Word).extractLsb' 0 5 ≠ 0x15) :=
  ⟨fun w => ⟨idleState_idle _, rfl⟩, by decide +kernel⟩

theorem witness_StepPresentsDecodedCommand :
    (cmdState 0x3F15).rstN = true ∧ (cmdState 0x3F15).status.busy = false ∧
    (cmdState 0x3F15).inputs = hostWrite (cmdState 0x3F15).params 0x018 0x3F15 :: [] ∧
    decode 0x3F15 = .ok (.macRds 63) := by decide +kernel

theorem witness_StepCompletesPendingCommand :
    (∀ es, (busyState es).rstN = true ∧ (busyState es).pending = some ⟨.bflyFwd, 4, 4, 4, false, false⟩) ∧
    (busyState [.sequencer]).inputs = .sequencer :: [] ∧ (busyState []).inputs = [] :=
  ⟨fun _ => ⟨rfl, rfl⟩, rfl, rfl⟩

theorem witness_IdleBlockWaits :
    (∀ es, (idleState es).pending = none) ∧ (idleState []).inputs = [] ∧
    (idleState [.sequencer]).inputs = .sequencer :: [] := ⟨fun _ => rfl, rfl, rfl⟩

/-- The shortest and the longest length, with every check in force; and a command that has no check. -/
theorem witness_AcceptedCommandCapturesDescriptor :
    (idleState []).pending = none ∧
    ((idleState []).params.LegalLength (idleState []).len.toNat ∧
      (idleState []).twmod.toNat * (idleState []).len.toNat = (idleState []).params.nmax ∧
      (idleState []).brfact.toNat * (idleState []).len.toNat = (idleState []).params.nmax) ∧
    (∀ s : State, s = { idleState [] with len := 16, twmod := 1, brfact := 1 } → s.params.LegalLength s.len.toNat ∧
      s.twmod.toNat * s.len.toNat = s.params.nmax ∧ s.brfact.toNat * s.len.toNat = s.params.nmax) ∧
    (¬Instr.nop.UsesLen ∧ ¬Instr.nop.RunsBfly ∧ ¬Instr.nop.RunsBitrev true) := by
  refine ⟨rfl, ⟨legal_four, by decide +kernel⟩, ?_, by simp [Instr.UsesLen, Instr.RunsBfly, Instr.RunsBitrev]⟩
  rintro s rfl
  exact ⟨legal_sixteen, by decide +kernel⟩

theorem witness_RejectedCommandReportsFirstFailure :
    ((idleState []).pending = none ∧ (idleState []).status.busy = false) ∧
    (Instr.bitrev.UsesLen ∧ ¬smallParams.LegalLength 0 ∧ ¬smallParams.LegalLength 8 ∧ ¬smallParams.LegalLength 64) ∧
    (Instr.xform.RunsBfly ∧ smallParams.LegalLength 16 ∧ 0 * 16 ≠ smallParams.nmax ∧ 2 * 16 ≠ smallParams.nmax) ∧
    (Instr.xform.RunsBitrev true ∧ smallParams.LegalLength 4 ∧ 4 * 4 = smallParams.nmax ∧
      0 * 4 ≠ smallParams.nmax ∧ 5 * 4 ≠ smallParams.nmax) := by
  refine ⟨⟨rfl, rfl⟩, ⟨by simp [Instr.UsesLen], ?_, ?_, ?_⟩, ⟨by simp [Instr.RunsBfly], legal_sixteen, by decide +kernel⟩,
    by simp [Instr.RunsBitrev], legal_four, by decide +kernel⟩ <;> exact not_legal_of_ne (by decide) (by decide)

/-- A record of a command without operand fields, and of one with the widest SH. -/
theorem witness_CompletionNeverFails :
    (pendingState .nop 4 []).pending = some ⟨.nop, 4, 256, 256, false, false⟩ ∧
    (macState (.macRds 63) 0x80000000 0x7FFFFFFF 1).pending = some ⟨.macRds 63, 4, 256, 256, false, false⟩ := by
  decide +kernel

/-- Nothing is pending for the first clause of the NOP and MAC statements; a record is, for the second. -/
theorem witness_NopOnlyCompletes :
    (idleState []).pending = none ∧ (pendingState .nop 4 []).pending = some ⟨.nop, 4, 256, 256, false, false⟩ :=
  ⟨rfl, by decide +kernel⟩

theorem witness_MacClrClearsAccumulator :
    (idleState []).pending = none ∧ (macState .macClr 1 1 0).pending = some ⟨.macClr, 4, 256, 256, false, false⟩ :=
  ⟨rfl, by decide +kernel⟩

theorem witness_MacMulStoresExactProduct :
    (idleState []).pending = none ∧ (macState .macMul 1 1 0).pending = some ⟨.macMul, 4, 256, 256, false, false⟩ :=
  ⟨rfl, by decide +kernel⟩

theorem witness_MacMlaAddsProduct :
    (idleState []).pending = none ∧ (macState .macMla 1 1 0).pending = some ⟨.macMla, 4, 256, 256, false, false⟩ :=
  ⟨rfl, by decide +kernel⟩

theorem witness_MacMlsSubtractsProduct :
    (idleState []).pending = none ∧ (macState .macMls 1 1 0).pending = some ⟨.macMls, 4, 256, 256, false, false⟩ :=
  ⟨rfl, by decide +kernel⟩

/-- With both ends of the range of SH. -/
theorem witness_MacRdwReadsWrapped :
    (0 < 64 ∧ 63 < 64) ∧ (idleState []).pending = none ∧
    (macState (.macRdw 63) 1 1 0).pending = some ⟨.macRdw 63, 4, 256, 256, false, false⟩ := ⟨by decide, rfl, by decide +kernel⟩

/-- With both ends of the range of SH. -/
theorem witness_MacRdsReadsSaturated :
    (0 < 64 ∧ 63 < 64) ∧ (idleState []).pending = none ∧
    (macState (.macRds 63) 1 1 0).pending = some ⟨.macRds 63, 4, 256, 256, false, false⟩ := ⟨by decide, rfl, by decide +kernel⟩

/-- The one input that is clamped, and one beside it. -/
theorem witness_MulThenReadIsQ31Product :
    ∀ a ∈ [(0x80000000 : Word), 0x80000001], ({ idleState [] with opa := a, opb := 0x80000000 } : State).pending = none :=
  fun _ _ => rfl

theorem witness_MacCommandsIgnoreTransformState :
    IsMac .macClr ∧ IsMac (.macRds 63) ∧
    (macState (.macRds 63) 1 1 0).pending = some ⟨.macRds 63, 4, 256, 256, false, false⟩ :=
  ⟨by simp [IsMac], by simp [IsMac], by decide +kernel⟩

theorem witness_TransformCommandsIgnoreMacState :
    Instr.bflyFwd.UsesLen ∧ (busyState []).pending = some ⟨.bflyFwd, 4, 4, 4, false, false⟩ :=
  ⟨by simp [Instr.UsesLen], rfl⟩

theorem witness_ButterflyPassStaysInBuffer :
    (busyState []).pending = some ⟨.bflyFwd, 4, 4, 4, false, false⟩ ∧ (busyState []).params.LegalLength (4 : Word).toNat ∧
    ((0x7FFF : Nat) < 0x8000 ∧ 0x8000 + 8 * (4 : Word).toNat ≤ 0x8020) ∧
    ∃ r₁ : Ram, r₁ ≠ (busyState []).ram ∧ ∀ w < 2 * (4 : Word).toNat, r₁.readWord w = (busyState []).ram.readWord w :=
  ⟨rfl, legal_four, by decide +kernel, (busyState []).ram.writeWord 8 1, by decide +kernel, by decide +kernel⟩

theorem witness_ButterflyCommandsRunTheirStages :
    (busyState []).pending = some ⟨.bflyFwd, 4, 4, 4, false, false⟩ ∧
    [lastStage 4] = passStages (4 : Word).toNat (4 : Word).toNat := by decide +kernel

theorem witness_PassHasLog4Stages :
    (1 ≤ 1 ∧ 1 ≤ smallParams.log4Nmax ∧ 4 = 4 ^ 1 ∧ 4 * 4 = smallParams.nmax ∧
      (passStages 4 4)[0]? = some (lastStage 4)) ∧
    (1 ≤ 2 ∧ 2 ≤ smallParams.log4Nmax ∧ 16 = 4 ^ 2 ∧ 1 * 16 = smallParams.nmax ∧ 1 < 2 ∧ 0 + 1 < 2 ∧
      (passStages 16 1)[0]? = some (firstStage 16 1) ∧ (passStages 16 1)[1]? = some (lastStage 16)) := by decide +kernel

theorem witness_TwiddleIndicesStayInRom :
    1 ≤ 2 ∧ 2 ≤ smallParams.log4Nmax ∧ 16 = 4 ^ 2 ∧ 1 * 16 = smallParams.nmax ∧ 0 + 1 < 2 ∧
      (passStages 16 1)[0]? = some (firstStage 16 1) := by decide +kernel

theorem witness_StageTouchesEachSampleOnce :
    smallParams.LegalLength 16 ∧ firstStage 16 1 ∈ passStages 16 1 ∧ lastStage 16 ∈ passStages 16 1 :=
  ⟨legal_sixteen, by decide +kernel, by decide +kernel⟩

/-- The sample just past the pass is left alone. -/
theorem witness_StageActsInParallel :
    smallParams.LegalLength 16 ∧ firstStage 16 1 ∈ passStages 16 1 ∧ lastStage 16 ∈ passStages 16 1 ∧ 16 ≤ 16 :=
  ⟨legal_sixteen, by decide +kernel⟩

theorem witness_StageOrderDoesNotMatter :
    smallParams.LegalLength 16 ∧ firstStage 16 1 ∈ passStages 16 1 ∧
    (firstStage 16 1).reverse.Perm (firstStage 16 1) ∧ (firstStage 16 1).reverse ≠ firstStage 16 1 ∧
    Memory.wf (busyState []).ram.cells :=
  ⟨legal_sixteen, by decide +kernel, List.reverse_perm _, by decide +kernel, by decide +kernel⟩

/-- The other hypotheses of the two formulas only name values. -/
theorem witness_FirstButterflyFormula : (⟨.first, 1, 4, 1, 1⟩ : Bfly).kind = .first := rfl

theorem witness_MiddleButterflyFormula : (⟨.middle, 1, 4, 1, 4⟩ : Bfly).kind = .middle := rfl

theorem witness_LastButterflyFormula : (⟨.last, 12, 1, 0, 0⟩ : Bfly).kind = .last ∧ ⟨.last, 12, 1, 0, 0⟩ ∈ lastStage 16 := by
  decide +kernel

theorem witness_FourPointPassFormula :
    (pendingState .bflyInv 4 [1, 2, 3, 4, 5, 6, 7, 8]).pending = some ⟨.bflyInv, 4, 256, 256, false, false⟩ := by
  decide +kernel

/-- The largest parts the bound admits. -/
theorem witness_UnscaledButterflyExactBelowBound :
    (⟨.last, 12, 1, 0, 0⟩ : Bfly).kind = .last ∧
    ∀ x ∈ [(⟨0x1FFFFFFF, 0xE0000001⟩ : Cplx)], |x.re.toInt| < 2 ^ 29 ∧ |x.im.toInt| < 2 ^ 29 := by decide +kernel

/-- The last pair of the ROM of the smallest and of the largest size. -/
theorem witness_TwiddleAccumulationsFit64Bits :
    2 < 3 * (⟨0, 0⟩ : Params).nmax / 4 ∧ 3071 < 3 * (⟨5, 0⟩ : Params).nmax / 4 := by decide +kernel

theorem witness_TwiddleRomIsQuantisedCosine :
    2 < 3 * (⟨0, 0⟩ : Params).nmax / 4 ∧ 3071 < 3 * (⟨5, 0⟩ : Params).nmax / 4 := by decide +kernel

theorem witness_ReversalRomReversesBits : 4095 < (⟨5, 0⟩ : Params).nmax ∧ 11 < 2 * (⟨5, 0⟩ : Params).log4Nmax := by
  decide +kernel

theorem witness_BitrevPermutesSamples :
    ∃ s : State, s.pending = some ⟨.bitrev, 16, 1, 1, false, false⟩ ∧ 1 ≤ 2 ∧ 2 ≤ s.params.log4Nmax ∧
      (16 : Word).toNat = 4 ^ 2 ∧ (1 : Word).toNat * (16 : Word).toNat = s.params.nmax :=
  ⟨{ idleState [] with pending := some ⟨.bitrev, 16, 1, 1, false, false⟩ }, by decide +kernel⟩

theorem witness_BitrevTwiceIsIdentity :
    (busyState []).pending = some ⟨.bflyFwd, 4, 4, 4, false, false⟩ ∧ (busyState []).params.LegalLength (4 : Word).toNat ∧
    (4 : Word).toNat * (4 : Word).toNat = (busyState []).params.nmax := ⟨rfl, legal_four, by decide +kernel⟩

/-- With and without the bit-reversal pass. -/
theorem witness_XformRunsPassThenReversal :
    ∀ br, (xformState true br).pending = some ⟨.xform, 4, 256, 256, true, br⟩ := by decide +kernel

/-- Both directions. -/
theorem witness_FourPointXformIsNaturalOrderDft :
    ∀ inv, (xformState inv true).pending = some ⟨.xform, 4, 256, 256, inv, true⟩ ∧
      (256 : Word).toNat * 4 = (xformState inv true).params.nmax := by decide +kernel

theorem witness_FourPointRoundTrip :
    ∃ s : State, s.Idle ∧ s.ctrl = ⟨false, true⟩ ∧ s.len = 4 ∧ s.twmod.toNat * 4 = s.params.nmax ∧
      s.brfact.toNat * 4 = s.params.nmax ∧
      s.inputs = [hostWrite s.params 0x018 1, .sequencer, hostWrite s.params 0x008 3, hostWrite s.params 0x018 1,
        .sequencer] :=
  ⟨{ idleState [hostWrite smallParams 0x018 1, .sequencer, hostWrite smallParams 0x008 3, hostWrite smallParams 0x018 1,
      .sequencer] with ctrl := ⟨false, true⟩ }, ⟨rfl, rfl, rfl⟩, by decide +kernel⟩

/-- A cause of each kind at the edge of its range, and an access that has none; the first unmapped offset is 0x38, the
last byte of the window 0x1FFFF. -/
theorem witness_BusErrorHasExactlyTheseCauses :
    (∀ t, (idleState [.host t]).rstN = true ∧ (idleState [.host t]).inputs = .host t :: []) ∧
    (Txn.read (0x60000 + 0x1FFFF) 4).addr = (idleState []).params.base + 0x1FFFF ∧
    BusErrorCause (idleState []) (.read 0x7FFFF 4) 0x1FFFF ∧ BusErrorCause (idleState []) (.read 0x60000 8) 0 ∧
    BusErrorCause (idleState []) (.read 0x60038 4) 0x38 ∧ BusErrorCause (idleState []) (.write 0x60034 4 0) 0x34 ∧
    BusErrorCause (busyState []) (.read 0x6807C 4) 0x807C ∧
    ¬BusErrorCause (idleState []) (.read 0x60034 4) 0x34 ∧ ¬BusErrorCause (busyState []) (.write 0x6001C 4 6) 0x1C := by
  refine ⟨fun t => ⟨rfl, rfl⟩, by decide +kernel, .inl ?_, .inl ?_, .inr (.inl ?_), .inr (.inr (.inl ⟨trivial, ?_⟩)),
    .inr (.inr (.inr ⟨?_, rfl⟩)), ?_, ?_⟩
  · decide
  · decide
  · unfold MappedOffset; decide +kernel
  · unfold ReadOnlyOffset; decide +kernel
  · unfold GuardedOffset; decide +kernel
  · rintro (h | h | ⟨h, _⟩ | ⟨_, h⟩)
    · exact absurd h (by decide)
    · exact h (.inl (by decide))
    · exact h
    · exact absurd h (by decide)
  · rintro (h | h | ⟨_, h⟩ | ⟨h, _⟩)
    · exact absurd h (by decide)
    · exact h (.inl (by decide))
    · revert h; unfold ReadOnlyOffset; decide +kernel
    · revert h; unfold GuardedOffset; decide +kernel

theorem witness_ReadsHaveNoSideEffect :
    ∀ a ∈ [0x60000, 0x7FFFF], (idleState [.host (.read a 4)]).rstN = true ∧
      (idleState [.host (.read a 4)]).inputs = .host (.read a 4) :: [] ∧
      (idleState [.host (.read a 4)]).params.base ≤ a ∧ a < (idleState [.host (.read a 4)]).params.base + 0x20000 := by
  decide +kernel

/-- Each offset of the statement is met in its clause. -/
theorem witness_RegisterWritesStoreValue :
    ∀ off ∈ [0x008, 0x00C, 0x010, 0x014, 0x01C, 0x020, 0x024, 0x028, 0x02C, 0x030],
      (idleState [hostWrite smallParams off 0xFFFFFFFF]).rstN = true ∧
      (idleState [hostWrite smallParams off 0xFFFFFFFF]).status.busy = false ∧
      (idleState [hostWrite smallParams off 0xFFFFFFFF]).inputs =
        hostWrite (idleState [hostWrite smallParams off 0xFFFFFFFF]).params off 0xFFFFFFFF :: [] := by decide +kernel

theorem witness_RegistersReadBack :
    (∀ off ∈ [0x008, 0x00C, 0x020, 0x030],
      (idleState [hostWrite smallParams off 0xFFFFFFFF, hostRead smallParams off]).rstN = true ∧
      (idleState [hostWrite smallParams off 0xFFFFFFFF, hostRead smallParams off]).status.busy = false ∧
      (idleState [hostWrite smallParams off 0xFFFFFFFF, hostRead smallParams off]).inputs =
        [hostWrite (idleState []).params off 0xFFFFFFFF, hostRead (idleState []).params off]) ∧
    (∀ off ∈ [0x008, 0x00C, 0x010, 0x014, 0x024, 0x028, 0x02C, 0x030, 0x034],
      (idleState [hostRead smallParams off]).rstN = true ∧ (idleState [hostRead smallParams off]).status.busy = false ∧
      (idleState [hostRead smallParams off]).inputs = hostRead (idleState []).params off :: []) ∧
    ((busyState [hostRead smallParams 0x020]).rstN = true ∧
      (busyState [hostRead smallParams 0x020]).inputs = hostRead (busyState []).params 0x020 :: []) := by decide +kernel

/-- The first and the last word of the RAM, read and written. -/
theorem witness_RamWindowReadsAndWrites :
    ∀ w ∈ [0, 31], ∀ e ∈ [hostRead smallParams (0x8000 + 4 * w), hostWrite smallParams (0x8000 + 4 * w) 1],
      (idleState [e]).rstN = true ∧ (idleState [e]).status.busy = false ∧ w < 2 * (idleState [e]).params.nmax ∧
      (idleState [e]).inputs = e :: [] := by decide +kernel

/-- The last entry of each ROM, idle or BUSY. -/
theorem witness_RomWindowsRead :
    (11 < 3 * smallParams.nmax / 4 ∧ 15 < smallParams.nmax) ∧
    ∀ e ∈ [hostRead smallParams (0x10000 + 8 * 11), hostRead smallParams (0x10000 + 8 * 11 + 4),
        hostRead smallParams (0x18000 + 4 * 15)],
      (busyState [e]).rstN = true ∧ (busyState [e]).inputs = e :: [] := by decide +kernel

theorem witness_ConstantRegistersRead :
    ∀ e ∈ [hostRead smallParams 0x000, hostRead smallParams 0x004, hostRead smallParams 0x018],
      (idleState [e]).rstN = true ∧ (idleState [e]).status.busy = false ∧ (idleState [e]).inputs = e :: [] := by
  decide +kernel

theorem witness_StatusReadsAndClears :
    ∀ e ∈ [hostRead smallParams 0x01C, hostWrite smallParams 0x01C 6],
      (busyState [e]).rstN = true ∧ (busyState [e]).inputs = e :: [] := by decide +kernel

theorem witness_BusyGuardProtectsCommand :
    ∃ u, (busyState [hostWrite smallParams 0x020 6]).status.busy = true ∧
      (busyState [hostWrite smallParams 0x020 6]).inputs = .host (.write 0x60020 4 6) :: [] ∧
      step (busyState [hostWrite smallParams 0x020 6]) = .next u ∧ u.irqen = ⟨true, true⟩ :=
  ⟨{ busyState [] with irqen := ⟨true, true⟩, response := some .written }, rfl, rfl, rfl, rfl⟩

/-- The addresses just below and just above the window, and a read while rst_n is asserted. -/
theorem witness_StopsOnlyOutsideTheSpec :
    (∀ t, (idleState [.host t]).rstN = true ∧ (idleState [.host t]).inputs = .host t :: []) ∧
    (Txn.read 0x5FFFF 4).addr < (idleState []).params.base ∧
    (idleState []).params.base + 0x20000 ≤ (Txn.read 0x80000 4).addr ∧
    ∃ s : State, s.rstN = false ∧ s.inputs = .host (.read 0x60000 4) :: [] :=
  ⟨fun _ => ⟨rfl, rfl⟩, by decide +kernel, by decide +kernel,
    { idleState [.host (.read 0x60000 4)] with rstN := false }, rfl, rfl⟩

theorem witness_ResetLeavesSpecifiedValues : ∃ s, s = State.reset := ⟨_, rfl⟩

theorem witness_AssertedResetForgetsEverything :
    (busyState [.rstN false]).inputs = .rstN false :: [] ∧ (idleState [.rstN true]).inputs = .rstN true :: [] := ⟨rfl, rfl⟩

theorem witness_StepKeepsInvariant : ∃ t, (busyState []).Inv ∧ step (busyState []) = .next t :=
  ⟨_, busyState_inv [], rfl⟩

theorem witness_StepKeepsParameters : ∃ t, step (busyState []) = .next t := ⟨_, rfl⟩

/-- BUSY rises in the first step and falls in the second. -/
theorem witness_BusyChangesOnlyByCommandOrReset :
    (∃ t, step (cmdState 0) = .next t ∧ (cmdState 0).status.busy = false ∧ t.status.busy = true) ∧
    ∃ t, step (busyState []) = .next t ∧ (busyState []).status.busy = true ∧ t.status.busy = false :=
  ⟨⟨_, rfl, rfl, rfl⟩, ⟨_, rfl, rfl, rfl⟩⟩

/-- The step completes the pass and changes a byte of the buffer. -/
theorem witness_MemoryChangesOnlyByTheseEvents :
    ∃ t, (busyState []).Inv ∧ step (busyState []) = .next t ∧
      t.ram.readByte 0x8008 ≠ (busyState []).ram.readByte 0x8008 :=
  ⟨_, busyState_inv [], rfl, by decide +kernel⟩

theorem witness_AcceptedCommandEventuallyCompletes :
    ∀ es, es = [hostRead smallParams 0x01C, hostWrite smallParams 0x1FFFC 0, .sequencer] →
      (busyState es).Inv ∧ (busyState es).rstN = true ∧
      (busyState es).pending = some ⟨.bflyFwd, 4, 4, 4, false, false⟩ ∧
      ∀ e ∈ (busyState es).inputs, e = .sequencer ∨ ∃ t : Txn, e = .host t ∧ (busyState es).params.base ≤ t.addr ∧
        t.addr < (busyState es).params.base + 0x20000 := by
  rintro es rfl
  refine ⟨busyState_inv _, rfl, rfl, fun e he => ?_⟩
  obtain rfl | rfl | rfl : e = hostRead smallParams 0x01C ∨ e = hostWrite smallParams 0x1FFFC 0 ∨ e = .sequencer := by
    simpa [busyState, idleState] using he
  · exact .inr ⟨_, rfl, by decide +kernel⟩
  · exact .inr ⟨_, rfl, by decide +kernel⟩
  · exact .inl rfl

end Sys2Proof.Machine
end

/-! The bit-reversal ROM (20_memory.md R95): what `bitrev` does to the bits of its argument. -/

namespace Sys2Proof.Machine

theorem bitrev_lt (b i : Nat) : bitrev b i < 2 ^ b := by
  induction b generalizing i with
  | zero => simp [bitrev]
  | succ b ih =>
    have hlow : bitrev b (i / 2) < 2 ^ b := ih (i / 2)
    have htop : i % 2 * 2 ^ b ≤ 1 * 2 ^ b := Nat.mul_le_mul_right _ (by omega)
    rw [bitrev, pow_succ]
    omega

/-- Bit `k` of `bitrev_b(i)` is bit `b - 1 - k` of i (00_scope.md R17): the recursion puts bit 0 of i on top. -/
theorem testBit_bitrev {b k : Nat} (i : Nat) (hk : k < b) : (bitrev b i).testBit k = i.testBit (b - 1 - k) := by
  induction b generalizing i with
  | zero => omega
  | succ b ih =>
    rw [bitrev, mul_comm, Nat.testBit_two_pow_mul_add _ (bitrev_lt b (i / 2))]
    rcases Nat.lt_succ_iff_lt_or_eq.mp hk with hlt | rfl
    · rw [if_pos hlt, ih (i / 2) hlt, ← Nat.testBit_add_one]
      congr 1
      omega
    · simp [Nat.testBit_zero]

theorem Params.nmax_eq_two_pow (p : Params) : p.nmax = 2 ^ (2 * p.log4Nmax) := by
  rw [Params.nmax, pow_mul]
  norm_num

/-- Settles O36, by induction on the number of bits reversed. -/
theorem reversalRomReversesBits : Obligations.ReversalRomReversesBits := by
  intro p i k _ hk
  refine ⟨?_, testBit_bitrev i hk⟩
  rw [Params.nmax_eq_two_pow]
  exact bitrev_lt _ i

end Sys2Proof.Machine

/-! The twiddle ROM (20_memory.md R92, R93). A partial sum of the cosine series at a rational angle is within a known
distance of the real cosine; the kernel compares those sums, as exact fractions, with the 1025 entries of the quarter
wave. The other quadrants and the smaller sizes follow by the symmetries of cosine and sine. -/

namespace Sys2Proof.Machine

/-- The real part of a partial sum of the series of `exp (t * I)`, four terms at a time. -/
theorem re_sum_exp_mul_I (t : ℝ) (n : Nat) :
    (∑ m ∈ Finset.range (4 * n), ((t : ℂ) * Complex.I) ^ m / (m.factorial : ℂ)).re =
      ∑ j ∈ Finset.range n, (t ^ (4 * j) / (4 * j).factorial - t ^ (4 * j + 2) / (4 * j + 2).factorial) := by
  induction n with
  | zero => simp
  | succ n ih =>
    have hI : Complex.I ^ (4 * n) = 1 := by rw [pow_mul, Complex.I_pow_four, one_pow]
    have hterm (m k : Nat) : ((t : ℂ) * Complex.I) ^ m / (k : ℂ) = ((t ^ m / k : ℝ) : ℂ) * Complex.I ^ m := by
      push_cast
      ring
    rw [Finset.sum_range_succ _ n, ← ih, show 4 * (n + 1) = 4 * n + 1 + 1 + 1 + 1 by ring]
    simp only [Finset.sum_range_succ, hterm, pow_succ Complex.I, hI, Complex.add_re, Complex.re_ofReal_mul, one_mul,
      Complex.I_mul_I, neg_mul, Complex.neg_re, Complex.one_re, Complex.I_re]
    ring

/-- The remainder of the cosine series after `2 * n` terms. -/
theorem abs_cos_sub_sum_le {t : ℝ} {n : Nat} (ht : |t| / ((4 * n).succ : ℝ) ≤ 1 / 2) :
    |Real.cos t - ∑ j ∈ Finset.range n, (t ^ (4 * j) / (4 * j).factorial - t ^ (4 * j + 2) / (4 * j + 2).factorial)| ≤
      |t| ^ (4 * n) / (4 * n).factorial * 2 := by
  have hnorm : ‖(t : ℂ) * Complex.I‖ = |t| := by simp
  rw [← re_sum_exp_mul_I, ← Complex.exp_ofReal_mul_I_re, ← Complex.sub_re, ← hnorm]
  exact (Complex.abs_re_le_norm _).trans (Complex.exp_bound' (by rwa [hnorm]))

/-- The angle of twiddle `m` at NMAX = 4096, in radians (20_memory.md R92). -/
noncomputable def twAngle (m : Nat) : ℝ := 2 * Real.pi * m / 4096

/-- `stepNum / stepDen` is `2 * pi / 4096` to twenty digits of pi. -/
def stepNum : Nat := 314159265358979323846

/-- The denominator of the rational angle step. -/
def stepDen : Nat := 2048 * 10 ^ 20

/-- The rational angle at which the cosine series is summed for entry `i`. -/
noncomputable def ratAngle (i : Nat) : ℝ := (i * stepNum : Nat) / stepDen

theorem stepDen_pos : 0 < stepDen := by norm_num [stepDen]

theorem abs_twAngle_sub_ratAngle_le {i : Nat} (hi : i ≤ 1024) : |twAngle i - ratAngle i| ≤ 1 / 10 ^ 20 := by
  have hi' : (i : ℝ) ≤ 1024 := mod_cast hi
  have hpos : (0 : ℝ) ≤ i := i.cast_nonneg
  have hlow := Real.pi_gt_d20
  have hhigh := Real.pi_lt_d20
  have heq : twAngle i - ratAngle i = i * (Real.pi - 3.14159265358979323846) / 2048 := by
    rw [twAngle, ratAngle, stepNum, stepDen]
    push_cast
    ring
  rw [heq, abs_of_nonneg (by apply div_nonneg (mul_nonneg hpos _) <;> linarith)]
  nlinarith

theorem abs_ratAngle_le {i : Nat} (hi : i ≤ 1024) : |ratAngle i| ≤ 8 / 5 := by
  have hi' : (i : ℝ) ≤ 1024 := mod_cast hi
  rw [ratAngle, abs_of_nonneg (by positivity), stepNum, stepDen]
  push_cast
  linarith

/-- The common denominator of the first fourteen terms of the cosine series at a rational angle. -/
def cosDen : Nat := Nat.factorial 28 * stepDen ^ 28

/-- The positive ones of those terms, over `cosDen`. -/
def cosPos (i : Nat) : Nat :=
  ∑ j ∈ Finset.range 7, Nat.factorial 28 / (4 * j).factorial * (i * stepNum) ^ (4 * j) * stepDen ^ (28 - 4 * j)

/-- The negative ones, over `cosDen`. -/
def cosNeg (i : Nat) : Nat :=
  ∑ j ∈ Finset.range 7,
    Nat.factorial 28 / (4 * j + 2).factorial * (i * stepNum) ^ (4 * j + 2) * stepDen ^ (28 - (4 * j + 2))

theorem cosDen_pos : 0 < cosDen := Nat.mul_pos (Nat.factorial_pos 28) (Nat.pow_pos stepDen_pos)

/-- A term of the exponential series as a fraction over `cosDen`. -/
theorem term_div_cosDen (a : Nat) {k : Nat} (hk : k ≤ 28) :
    ((Nat.factorial 28 / k.factorial * a ^ k * stepDen ^ (28 - k) : Nat) : ℝ) / cosDen =
      ((a : ℝ) / stepDen) ^ k / k.factorial := by
  have hd : (stepDen : ℝ) ≠ 0 := mod_cast stepDen_pos.ne'
  have hf (n : Nat) : (n.factorial : ℝ) ≠ 0 := mod_cast n.factorial_ne_zero
  have hsplit : (stepDen : ℝ) ^ 28 = stepDen ^ k * stepDen ^ (28 - k) := by rw [← pow_add, Nat.add_sub_cancel' hk]
  have hquot := Nat.cast_div (Nat.factorial_dvd_factorial hk) (hf k)
  rw [cosDen, Nat.cast_mul, Nat.cast_mul, Nat.cast_mul, hquot, Nat.cast_pow, Nat.cast_pow, Nat.cast_pow, hsplit, div_pow]
  field_simp [hf k, hf 28]

/-- The partial sum of the cosine series at `ratAngle i`, as a fraction of natural numbers. -/
theorem sum_ratAngle_eq (i : Nat) :
    ∑ j ∈ Finset.range 7, (ratAngle i ^ (4 * j) / (4 * j).factorial - ratAngle i ^ (4 * j + 2) / (4 * j + 2).factorial) =
      ((cosPos i : ℝ) - cosNeg i) / cosDen := by
  rw [cosPos, cosNeg, Nat.cast_sum, Nat.cast_sum, ← Finset.sum_sub_distrib, Finset.sum_div]
  refine Finset.sum_congr rfl fun j hj => ?_
  have hj' : j < 7 := Finset.mem_range.mp hj
  rw [sub_div, term_div_cosDen _ (by omega), term_div_cosDen _ (by omega), ratAngle]

theorem abs_cos_ratAngle_sub_le {i : Nat} (hi : i ≤ 1024) :
    |Real.cos (ratAngle i) - ((cosPos i : ℝ) - cosNeg i) / cosDen| ≤ 1 / 10 ^ 20 := by
  have hx := abs_ratAngle_le hi
  rw [← sum_ratAngle_eq]
  calc _ ≤ |ratAngle i| ^ (4 * 7) / (4 * 7).factorial * 2 := abs_cos_sub_sum_le (by norm_num; linarith)
    _ ≤ (8 / 5) ^ (4 * 7) / (4 * 7).factorial * 2 := by gcongr
    _ ≤ 1 / 10 ^ 20 := by norm_num [Nat.factorial]

/-- Entry i of the quarter wave is no further than `1/2 - 2^-33` from `2^31` times the partial sum, in natural numbers so
that the kernel can evaluate it. -/
def NearSeries (i : Nat) : Prop :=
  2 ^ 64 * cosPos i + cosDen ≤ 2 ^ 64 * cosNeg i + (2 ^ 33 * chunkAt quarterWave 0 i + 2 ^ 32) * cosDen ∧
  2 ^ 64 * cosNeg i + (2 ^ 33 * chunkAt quarterWave 0 i + 1) * cosDen ≤ 2 ^ 64 * cosPos i + 2 ^ 32 * cosDen

theorem quarterWave_nearSeries : ∀ i ∈ List.range 1025, NearSeries i := by
  unfold NearSeries
  decide +kernel

theorem NearSeries.abs_sub_le {i : Nat} (h : NearSeries i) :
    |((cosPos i : ℝ) - cosNeg i) / cosDen * 2 ^ 31 - quarterCos i| ≤ 1 / 2 - 1 / 2 ^ 33 := by
  obtain ⟨hle, hge⟩ := h
  have hd : (0 : ℝ) < cosDen := mod_cast cosDen_pos
  have hle' : (2 ^ 64 * cosPos i + cosDen : ℝ) ≤ 2 ^ 64 * cosNeg i + (2 ^ 33 * quarterCos i + 2 ^ 32) * cosDen := by
    rw [quarterCos]
    exact_mod_cast hle
  have hge' : (2 ^ 64 * cosNeg i + (2 ^ 33 * quarterCos i + 1) * cosDen : ℝ) ≤ 2 ^ 64 * cosPos i + 2 ^ 32 * cosDen := by
    rw [quarterCos]
    exact_mod_cast hge
  rw [abs_le, div_mul_eq_mul_div, neg_le_sub_iff_le_add, sub_le_iff_le_add, div_le_iff₀ hd, ← sub_le_iff_le_add,
    le_div_iff₀ hd]
  constructor <;> linarith

/-- Entry i of the quarter wave is the integer nearest to `2^31 * cos(2*pi*i/4096)`: the errors of pi, of the partial sum
and of the entry add up to less than a half. -/
theorem abs_cos_sub_quarterCos_lt {i : Nat} (hi : i ≤ 1024) :
    |Real.cos (twAngle i) * 2 ^ 31 - quarterCos i| < 1 / 2 := by
  have hangle := (Real.abs_cos_sub_cos_le _ _).trans (abs_twAngle_sub_ratAngle_le hi)
  have hseries := abs_cos_ratAngle_sub_le hi
  have hentry := (quarterWave_nearSeries i (List.mem_range.mpr (by omega))).abs_sub_le
  obtain ⟨hangle₁, hangle₂⟩ := abs_le.mp hangle
  obtain ⟨hseries₁, hseries₂⟩ := abs_le.mp hseries
  obtain ⟨hentry₁, hentry₂⟩ := abs_le.mp hentry
  exact abs_lt.mpr ⟨by linarith, by linarith⟩

/-! The quantiser of 20_memory.md R93. -/

theorem roundHalfAway_eq {v : ℝ} {n : Int} (h : |v - n| < 1 / 2) : roundHalfAway v = n := by
  obtain ⟨hlow, hhigh⟩ := abs_lt.mp h
  unfold roundHalfAway
  split
  · exact Int.floor_eq_iff.mpr ⟨by linarith, by linarith⟩
  · exact Int.ceil_eq_iff.mpr ⟨by linarith, by linarith⟩

/-- A clamped and stored nearest integer is the quantised value. -/
theorem toInt_u32_sat32_eq_q31 {v : ℝ} {n : Int} (h : |v * 2 ^ 31 - n| < 1 / 2) : (u32 (sat32 n)).toInt = q31 v := by
  rw [q31, roundHalfAway_eq h]
  exact s32_u32_of_range (sat32_range n).1 (sat32_range n).2

theorem toInt_quarterCos {i : Nat} (hi : i ≤ 1024) : (u32 (sat32 (quarterCos i))).toInt = q31 (Real.cos (twAngle i)) :=
  toInt_u32_sat32_eq_q31 (abs_cos_sub_quarterCos_lt hi)

theorem toInt_neg_quarterCos {i : Nat} (hi : i ≤ 1024) :
    (u32 (sat32 (-quarterCos i))).toInt = q31 (-Real.cos (twAngle i)) := by
  refine toInt_u32_sat32_eq_q31 ?_
  have h := abs_cos_sub_quarterCos_lt hi
  rwa [← abs_neg, show -(-Real.cos (twAngle i) * 2 ^ 31 - ((-quarterCos i : Int) : ℝ)) =
    Real.cos (twAngle i) * 2 ^ 31 - quarterCos i by push_cast; ring]

/-! The three quadrants of the ROM. -/

theorem twAngle_quarter_add (r : Nat) : twAngle (1024 + r) = twAngle r + Real.pi / 2 := by
  rw [twAngle, twAngle]
  push_cast
  ring

theorem cos_twAngle_quarter_sub {r : Nat} (hr : r ≤ 1024) : Real.cos (twAngle (1024 - r)) = Real.sin (twAngle r) := by
  rw [← Real.cos_pi_div_two_sub]
  congr 1
  rw [twAngle, twAngle, Nat.cast_sub hr]
  push_cast
  ring

theorem quarterPair_first {r : Nat} (hr : r < 1024) :
    quarterPair r = ⟨u32 (sat32 (quarterCos r)), u32 (sat32 (-quarterCos (1024 - r)))⟩ := by
  simp only [quarterPair, Nat.mod_eq_of_lt hr, Nat.div_eq_of_lt hr]

theorem quarterPair_second {r : Nat} (hr : r < 1024) :
    quarterPair (1024 + r) = ⟨u32 (sat32 (-quarterCos (1024 - r))), u32 (sat32 (-quarterCos r))⟩ := by
  simp only [quarterPair, show (1024 + r) % 1024 = r by omega, show (1024 + r) / 1024 = 1 by omega]

theorem quarterPair_third {r : Nat} (hr : r < 1024) :
    quarterPair (1024 + (1024 + r)) = ⟨u32 (sat32 (-quarterCos r)), u32 (sat32 (quarterCos (1024 - r)))⟩ := by
  simp only [quarterPair, show (1024 + (1024 + r)) % 1024 = r by omega, show (1024 + (1024 + r)) / 1024 = 2 by omega]

/-- The pair that quantises the cosine and minus the sine of an angle (20_memory.md R92). -/
def IsQuantised (w : Cplx) (θ : ℝ) : Prop := w.re.toInt = q31 (Real.cos θ) ∧ w.im.toInt = q31 (-Real.sin θ)

theorem quarterPair_isQuantised {m : Nat} (hm : m < 3072) : IsQuantised (quarterPair m) (twAngle m) := by
  obtain ⟨r, hr, rfl | rfl | rfl⟩ : ∃ r < 1024, m = r ∨ m = 1024 + r ∨ m = 1024 + (1024 + r) :=
    ⟨m % 1024, by omega, by omega⟩
  · rw [quarterPair_first hr, IsQuantised, toInt_quarterCos hr.le, toInt_neg_quarterCos (Nat.sub_le _ _),
      cos_twAngle_quarter_sub hr.le]
    exact ⟨rfl, rfl⟩
  · rw [quarterPair_second hr, IsQuantised, toInt_neg_quarterCos hr.le, toInt_neg_quarterCos (Nat.sub_le _ _),
      cos_twAngle_quarter_sub hr.le, twAngle_quarter_add, Real.cos_add_pi_div_two, Real.sin_add_pi_div_two]
    exact ⟨rfl, rfl⟩
  · rw [quarterPair_third hr, IsQuantised, toInt_neg_quarterCos hr.le, toInt_quarterCos (Nat.sub_le _ _),
      cos_twAngle_quarter_sub hr.le, twAngle_quarter_add, twAngle_quarter_add, Real.cos_add_pi_div_two,
      Real.sin_add_pi_div_two, Real.sin_add_pi_div_two, Real.cos_add_pi_div_two, neg_neg]
    exact ⟨rfl, rfl⟩

/-! The smaller sizes: the listing of Appendix A is every fourth pair of the largest ROM. -/

theorem appendixPair_eq_quarterPair : ∀ m ∈ List.range 768, appendixPair m = quarterPair (m * 4) := by decide +kernel

theorem Params.nmax_dvd_4096 (p : Params) : p.nmax ∣ 4096 :=
  pow_dvd_pow 4 (Params.log4Nmax_le p).2

theorem Params.nmax_dvd_1024 {p : Params} (h : p.nmax ≤ 1024) : p.nmax ∣ 1024 :=
  pow_dvd_pow 4 ((Nat.pow_le_pow_iff_right (by norm_num)).mp h : p.log4Nmax ≤ 5)

theorem Params.nmax_eq_4096 {p : Params} (h : ¬p.nmax ≤ 1024) : p.nmax = 4096 := by
  have hlow : 5 < p.log4Nmax := (Nat.pow_lt_pow_iff_right (by norm_num : 1 < 4)).mp (not_le.mp h)
  have hhigh := (Params.log4Nmax_le p).2
  rw [Params.nmax, show p.log4Nmax = 6 by omega]
  norm_num

/-- An index below the ROM's depth stays below three quarters of a larger size when it is read at the stride. -/
theorem stride_lt {p : Params} {m size c : Nat} (hm : m < 3 * p.nmax / 4) (hc : size = p.nmax * c) (hpos : 0 < size) :
    4 * (m * c) < 3 * size := by
  have hm' : 4 * m < 3 * p.nmax := by omega
  have hcpos : 0 < c := Nat.pos_of_mul_pos_left (hc ▸ hpos)
  calc 4 * (m * c) = 4 * m * c := by ring
    _ < 3 * p.nmax * c := Nat.mul_lt_mul_of_pos_right hm' hcpos
    _ = 3 * size := by rw [hc, mul_assoc]

/-- Every size reads the ROM of NMAX = 4096 at a stride (20_memory.md R94). -/
theorem twEntry_eq_quarterPair {p : Params} {m : Nat} (hm : m < 3 * p.nmax / 4) :
    twEntry p m = quarterPair (m * (4096 / p.nmax)) := by
  have hn := Params.nmax_pos p
  unfold twEntry
  split
  · next hle =>
    obtain ⟨c, hc⟩ := Params.nmax_dvd_1024 hle
    have hsmall : 1024 / p.nmax = c := Nat.div_eq_of_eq_mul_right hn hc
    have hlarge : 4096 / p.nmax = c * 4 := Nat.div_eq_of_eq_mul_right hn (by linarith)
    have hlt : m * c < 768 := by have := stride_lt hm hc (by norm_num); omega
    rw [hsmall, hlarge, appendixPair_eq_quarterPair _ (List.mem_range.mpr hlt), mul_assoc]
  · next hgt => rw [Params.nmax_eq_4096 hgt, Nat.div_self (by norm_num), mul_one]

/-- The stride does not change the angle. -/
theorem twAngle_stride (p : Params) (m : Nat) : twAngle (m * (4096 / p.nmax)) = 2 * Real.pi * m / p.nmax := by
  have hn : (p.nmax : ℝ) ≠ 0 := mod_cast (Params.nmax_pos p).ne'
  rw [twAngle, Nat.cast_mul, Nat.cast_div (Params.nmax_dvd_4096 p) hn]
  push_cast
  field_simp

/-- Settles O35: every size reads the largest ROM at a stride, and that ROM is the quarter wave, whose entries are
certified against the cosine series. -/
theorem twiddleRomIsQuantisedCosine : Obligations.TwiddleRomIsQuantisedCosine := by
  intro p m hm
  have hindex : m * (4096 / p.nmax) < 3072 := by
    have := stride_lt hm (Nat.mul_div_cancel' (Params.nmax_dvd_4096 p)).symm (by norm_num)
    omega
  rw [twEntry_eq_quarterPair hm, ← twAngle_stride]
  exact quarterPair_isQuantised hindex

end Sys2Proof.Machine

/-! The decoder and the opcode map (30_encoding.md R111 to R114). A word is its four fields; `decode` and the masks of the
map both speak of those fields alone. -/

namespace Sys2Proof

/-! The fields of a word. -/

/-- The fields of R111 cover all 32 bits, so they determine the word. -/
theorem word_eq_iff_fields {w v : Word} :
    w = v ↔ opField w = opField v ∧ rsv0Field w = rsv0Field v ∧ shField w = shField v ∧ rsv1Field w = rsv1Field v := by
  constructor
  · rintro rfl
    exact ⟨rfl, rfl, rfl, rfl⟩
  · rintro ⟨hop, hrsv0, hsh, hrsv1⟩
    simp only [opField, rsv0Field, shField, rsv1Field, bitField, Nat.shiftRight_eq_div_pow] at hop hrsv0 hsh hrsv1
    apply BitVec.eq_of_toNat_eq
    omega

theorem bitField_and (w v : Word) (hi lo : Nat) : bitField (w &&& v) hi lo = bitField w hi lo &&& bitField v hi lo := by
  rw [bitField, bitField, bitField, BitVec.toNat_and, Nat.shiftRight_and_distrib, Nat.and_mod_two_pow]

/-- A mask that is all ones on a field keeps the field. -/
theorem bitField_and_of_ones {v : Word} {hi lo : Nat} (w : Word) (h : bitField v hi lo = 2 ^ (hi + 1 - lo) - 1) :
    bitField (w &&& v) hi lo = bitField w hi lo := by
  rw [bitField_and, h, Nat.and_two_pow_sub_one_eq_mod, bitField, Nat.mod_mod]

/-- A mask that is zero on a field clears the field. -/
theorem bitField_and_of_zero {v : Word} {hi lo : Nat} (w : Word) (h : bitField v hi lo = 0) :
    bitField (w &&& v) hi lo = 0 := by
  rw [bitField_and, h, Nat.and_zero]

/-- The mask of MAC.RDW and MAC.RDS compares every field but SH. -/
theorem and_shMask_eq_iff {w v : Word} :
    w &&& 0xFFFFC0FF = v ↔
      opField w = opField v ∧ rsv0Field w = rsv0Field v ∧ 0 = shField v ∧ rsv1Field w = rsv1Field v := by
  have hop : opField (w &&& 0xFFFFC0FF) = opField w := bitField_and_of_ones w rfl
  have hrsv0 : rsv0Field (w &&& 0xFFFFC0FF) = rsv0Field w := bitField_and_of_ones w rfl
  have hsh : shField (w &&& 0xFFFFC0FF) = 0 := bitField_and_of_zero w rfl
  have hrsv1 : rsv1Field (w &&& 0xFFFFC0FF) = rsv1Field w := bitField_and_of_ones w rfl
  rw [word_eq_iff_fields, hop, hrsv0, hsh, hrsv1]

theorem toNat_extractLsb'_eq_shField (w : Word) : (w.extractLsb' 8 6).toNat = shField w :=
  BitVec.extractLsb'_toNat 8 6 w

/-! The decoder. -/

theorem withoutSh_eq_ok_iff {w : Word} {i j : Instr} : withoutSh w j = .ok i ↔ shField w = 0 ∧ j = i := by
  unfold withoutSh
  split <;> simp [*]

/-- A word decodes to a command exactly when its fields are the command's and the reserved ones are zero (R114). -/
theorem decode_eq_ok_iff_fields {w : Word} {i : Instr} :
    decode w = .ok i ↔ opField w = i.opcode ∧ rsv0Field w = 0 ∧ shField w = i.shAmount ∧ rsv1Field w = 0 := by
  constructor
  · intro h
    unfold decode at h
    split at h
    · cases h
    · next hrsv =>
      obtain ⟨hrsv1, hrsv0⟩ : rsv1Field w = 0 ∧ rsv0Field w = 0 := by simpa using hrsv
      suffices opField w = i.opcode ∧ shField w = i.shAmount from ⟨this.1, hrsv0, this.2, hrsv1⟩
      split at h
      case h_10 hop => cases h; exact ⟨hop, rfl⟩
      case h_11 hop => cases h; exact ⟨hop, rfl⟩
      case h_12 => cases h
      all_goals
        next hop =>
        obtain ⟨hsh, rfl⟩ := withoutSh_eq_ok_iff.1 h
        exact ⟨hop, hsh⟩
  · rintro ⟨hop, hrsv0, hsh, hrsv1⟩
    cases i <;> simp_all [decode, withoutSh, Instr.opcode, Instr.shAmount]

/-- No two words decode to one command (R114). -/
theorem decode_eq_ok_iff_eq {w p : Word} {i : Instr} (hp : decode p = .ok i) : decode w = .ok i ↔ w = p := by
  obtain ⟨hop, hrsv0, hsh, hrsv1⟩ := decode_eq_ok_iff_fields.1 hp
  rw [decode_eq_ok_iff_fields, word_eq_iff_fields, hop, hrsv0, hsh, hrsv1]

/-! The rows of the map. -/

/-- The row of a command without SH: the mask keeps every bit. -/
theorem decode_eq_ok_iff_fullMask {w p : Word} {i : Instr} (hp : decode p = .ok i) :
    decode w = .ok i ↔ w &&& 0xFFFFFFFF = p := by
  rw [decode_eq_ok_iff_eq hp, show w &&& 0xFFFFFFFF = w from BitVec.and_allOnes]

/-- The row of a command with SH: the mask leaves SH out, and SH is the operand. The pattern is the word of the command
with SH = 0. -/
theorem decode_eq_ok_iff_shMask {w p : Word} {f : Nat → Instr} (hp : decode p = .ok (f 0))
    (hop : ∀ sh, (f sh).opcode = (f 0).opcode) (hsh : ∀ sh, (f sh).shAmount = sh) (sh : Nat) :
    decode w = .ok (f sh) ↔ w &&& 0xFFFFC0FF = p ∧ sh = (w.extractLsb' 8 6).toNat := by
  obtain ⟨hpop, hprsv0, hpsh, hprsv1⟩ := decode_eq_ok_iff_fields.1 hp
  rw [hsh] at hpsh
  rw [decode_eq_ok_iff_fields, and_shMask_eq_iff, toNat_extractLsb'_eq_shField, hop, hsh, hpop, hprsv0, hpsh, hprsv1]
  tauto

theorem decode_eq_macRdw_iff (w : Word) (sh : Nat) :
    decode w = .ok (.macRdw sh) ↔ w &&& 0xFFFFC0FF = 0x00000014 ∧ sh = (w.extractLsb' 8 6).toNat :=
  decode_eq_ok_iff_shMask rfl (fun _ => rfl) (fun _ => rfl) sh

theorem decode_eq_macRds_iff (w : Word) (sh : Nat) :
    decode w = .ok (.macRds sh) ↔ w &&& 0xFFFFC0FF = 0x00000015 ∧ sh = (w.extractLsb' 8 6).toNat :=
  decode_eq_ok_iff_shMask rfl (fun _ => rfl) (fun _ => rfl) sh

/-- The row of a command in the opcode map (R113). -/
def Instr.row : Instr → OpcodeRow
  | .macRdw _ => ⟨0x00000014, 0xFFFFC0FF⟩
  | .macRds _ => ⟨0x00000015, 0xFFFFC0FF⟩
  | i => ⟨BitVec.ofNat 32 i.opcode, 0xFFFFFFFF⟩

/-- The rows of the map are the rows of the commands, in the map's order. -/
theorem opcodeRows_eq_map_row :
    opcodeRows = [.nop, .xform, .bflyFwd, .bflyInv, .bitrev, .macClr, .macMul, .macMla, .macMls, .macRdw 0,
      .macRds 0].map Instr.row := rfl

theorem Instr.row_mem_opcodeRows (i : Instr) : i.row ∈ opcodeRows := by
  cases i <;> simp [opcodeRows, Instr.row, Instr.opcode]

/-- A word that decodes has the match of its command's row under the row's mask. -/
theorem and_row_mask_of_decode {w : Word} {i : Instr} (h : decode w = .ok i) : w &&& i.row.mask = i.row.pattern := by
  cases i with
  | macRdw sh => exact ((decode_eq_macRdw_iff w sh).1 h).1
  | macRds sh => exact ((decode_eq_macRds_iff w sh).1 h).1
  | _ => exact (decode_eq_ok_iff_fullMask rfl).1 h

/-- A word that a command's row admits is legal, though its operand is its own SH and not the command's. -/
theorem exists_decode_of_and_row_mask {w : Word} {i : Instr} (h : w &&& i.row.mask = i.row.pattern) :
    ∃ j, decode w = .ok j := by
  cases i with
  | macRdw => exact ⟨_, (decode_eq_macRdw_iff w _).2 ⟨h, rfl⟩⟩
  | macRds => exact ⟨_, (decode_eq_macRds_iff w _).2 ⟨h, rfl⟩⟩
  | _ => exact ⟨_, (decode_eq_ok_iff_fullMask rfl).2 h⟩

theorem exists_decode_iff_exists_row (w : Word) :
    (∃ i, decode w = .ok i) ↔ ∃ r ∈ opcodeRows, w &&& r.mask = r.pattern := by
  constructor
  · rintro ⟨i, h⟩
    exact ⟨i.row, i.row_mem_opcodeRows, and_row_mask_of_decode h⟩
  · rintro ⟨r, hr, h⟩
    rw [opcodeRows_eq_map_row] at hr
    obtain ⟨i, -, rfl⟩ := List.mem_map.1 hr
    exact exists_decode_of_and_row_mask h

/-- Every mask keeps the low byte, OP with RSV0, so a row that admits a word has the word's low byte as its match. -/
theorem pattern_eq_lowByte {w : Word} {r : OpcodeRow} (hr : r ∈ opcodeRows) (h : w &&& r.mask = r.pattern) :
    r.pattern = w &&& 0xFF := by
  have hmask : ∀ r ∈ opcodeRows, r.mask &&& 0xFF = 0xFF ∧ r.pattern &&& 0xFF = r.pattern := by decide
  obtain ⟨hkeep, hpat⟩ := hmask r hr
  calc r.pattern = w &&& r.mask &&& 0xFF := by rw [h, hpat]
    _ = w &&& 0xFF := by rw [BitVec.and_assoc, hkeep]

theorem row_eq_of_pattern_eq : ∀ r ∈ opcodeRows, ∀ r' ∈ opcodeRows, r.pattern = r'.pattern → r = r' := by
  decide

/-- Settles O3: each command's row, from the fields its mask compares; legality, row by row; and no overlap, since the
low byte of a word names the row. -/
theorem legalWordsAreTheOpcodeMap : Obligations.LegalWordsAreTheOpcodeMap := by
  refine ⟨fun w => ?_, exists_decode_iff_exists_row, fun w r r' hr hr' h h' => ?_⟩
  · have row {p : Word} {i : Instr} (hp : decode p = .ok i) := decode_eq_ok_iff_fullMask (w := w) hp
    exact ⟨row rfl, row rfl, row rfl, row rfl, row rfl, row rfl, row rfl, row rfl, row rfl, decode_eq_macRdw_iff w,
      decode_eq_macRds_iff w⟩
  · exact row_eq_of_pattern_eq r hr r' hr' ((pattern_eq_lowByte hr h).trans (pattern_eq_lowByte hr' h').symm)

end Sys2Proof

/-! The Q31 datapath (40_q31_datapath.md R145, R157): the multiplier sequence, and the reach of the twiddle
accumulations. -/

namespace Sys2Proof.Machine

/-! Multiply, then read at shift 31. -/

/-- A MAC command is subject to no check, so it is never rejected (43_dispatcher.md R231). -/
theorem exec_mac_of_none {i : Instr} {s : State} (hi : IsMac i) (h : s.pending = none) :
    exec i s = .next (acceptedState i s) := by
  rw [exec_of_none h]
  obtain ⟨-, haccept⟩ | ⟨e, hcheck, -⟩ := accept_cases i s
  · rw [haccept]
  · have hnone : check i s = none := by
      obtain rfl | rfl | rfl | rfl | ⟨sh, rfl⟩ | ⟨sh, rfl⟩ := hi <;> rfl
    rw [hnone] at hcheck
    cases hcheck

/-- The accumulator holds every product exactly (40_q31_datapath.md R151). -/
theorem s64_u64_prod (a b : Word) : s64 (u64 (prod a b)) = prod a b := by
  obtain ⟨hlow, hhigh⟩ := prod_range a b
  exact s64_u64_of_range (by linarith) (by linarith)

theorem s32_eq_min_iff {w : Word} : s32 w = -2 ^ 31 ↔ w = 0x80000000 :=
  ⟨fun h => BitVec.eq_of_toInt_eq h, fun h => h ▸ rfl⟩

/-- Only the product of the two least words reaches 2^62. -/
theorem prod_lt_of_not_min {a b : Word} (h : ¬(a = 0x80000000 ∧ b = 0x80000000)) : prod a b < 2 ^ 62 := by
  obtain ⟨ha₁, ha₂⟩ := s32_range a
  obtain ⟨hb₁, hb₂⟩ := s32_range b
  rw [← s32_eq_min_iff, ← s32_eq_min_iff, not_and_or] at h
  unfold prod
  obtain hne | hne := h
  · have ha : -2 ^ 31 < s32 a := lt_of_le_of_ne ha₁ (Ne.symm hne)
    nlinarith
  · have hb : -2 ^ 31 < s32 b := lt_of_le_of_ne hb₁ (Ne.symm hne)
    nlinarith

/-- Every other product, shifted by 31, is a signed 32-bit value: neither clamped nor wrapped. -/
theorem sra_prod_range {a b : Word} (h : ¬(a = 0x80000000 ∧ b = 0x80000000)) :
    -2 ^ 31 ≤ sra (prod a b) 31 ∧ sra (prod a b) 31 < 2 ^ 31 := by
  have hlow := (prod_range a b).1
  have hhigh := prod_lt_of_not_min h
  rw [sra_eq_div]
  omega

/-- The two reads of a product at shift 31 (40_q31_datapath.md R157). -/
theorem read_prod_eq (a b : Word) :
    if a = 0x80000000 ∧ b = 0x80000000 then
      u32 (sat32 (sra (prod a b) 31)) = 0x7FFFFFFF ∧ u32 (sra (prod a b) 31) = 0x80000000
    else s32 (u32 (sat32 (sra (prod a b) 31))) = ⌊(prod a b : ℚ) / 2 ^ 31⌋ ∧
      u32 (sra (prod a b) 31) = u32 (sat32 (sra (prod a b) 31)) := by
  split
  · next hmin =>
    rw [hmin.1, hmin.2]
    decide
  · next hmin =>
    obtain ⟨hlow, hhigh⟩ := sra_prod_range hmin
    rw [sat32_of_range hlow hhigh, s32_u32_of_range hlow hhigh]
    exact ⟨sra_eq_floor _ _, rfl⟩

/-- Settles O19: MAC.MUL leaves the exact product in ACC, and both reads shift it by 31; the result fits RES but for the
one input whose result is 2^31. -/
theorem mulThenReadIsQ31Product : Obligations.MulThenReadIsQ31Product := by
  intro s hs
  refine ⟨_, _, _, _, _, _, exec_mac_of_none (by simp [IsMac]) hs, exec_macMul_of_some rfl,
    exec_mac_of_none (by simp [IsMac]) rfl, exec_macRds_of_some rfl 31,
    exec_mac_of_none (by simp [IsMac]) rfl, exec_macRdw_of_some rfl 31, ?_⟩
  simp only [acceptedState, complete_res, State.withRes_res, complete_acc, State.withAcc_acc, s64_u64_prod, u32_wrap32]
  exact read_prod_eq s.opa s.opb

/-! The quantiser of 20_memory.md R93 moves a value by at most half a unit, and clamping never enlarges it. -/

theorem abs_sat32_le (n : Int) : |sat32 n| ≤ |n| := by
  have hlow := neg_abs_le n
  have hhigh := le_abs_self n
  rw [sat32, abs_le]
  omega

theorem abs_roundHalfAway_le (v : ℝ) : |(roundHalfAway v : ℝ)| ≤ |v| + 1 / 2 := by
  unfold roundHalfAway
  split
  · next hv =>
    have hfloor : (0 : ℝ) ≤ (⌊v + 1 / 2⌋ : ℝ) := mod_cast Int.floor_nonneg.mpr (by linarith)
    rw [abs_of_nonneg hv, abs_of_nonneg hfloor]
    exact Int.floor_le _
  · next hv =>
    have hceil : (⌈v - 1 / 2⌉ : ℝ) ≤ 0 := mod_cast Int.ceil_le.mpr (by push_cast; linarith)
    rw [abs_of_neg (not_le.mp hv), abs_of_nonpos hceil]
    linarith [Int.le_ceil (v - 1 / 2)]

theorem abs_q31_le (v : ℝ) : |(q31 v : ℝ)| ≤ |v| * 2 ^ 31 + 1 / 2 := by
  have hclamp : |(q31 v : ℝ)| ≤ |(roundHalfAway (v * 2 ^ 31) : ℝ)| := by
    rw [← Int.cast_abs, ← Int.cast_abs]
    exact Int.cast_le.mpr (abs_sat32_le _)
  have hround := abs_roundHalfAway_le (v * 2 ^ 31)
  rw [abs_mul, abs_of_pos (by norm_num : (0 : ℝ) < 2 ^ 31)] at hround
  exact hclamp.trans hround

/-! The twiddle accumulations. -/

theorem abs_cos_add_abs_sin_le (θ : ℝ) : |Real.cos θ| + |Real.sin θ| ≤ Real.sqrt 2 := by
  refine Real.le_sqrt_of_sq_le ?_
  calc (|Real.cos θ| + |Real.sin θ|) ^ 2 ≤ 2 * (|Real.cos θ| ^ 2 + |Real.sin θ| ^ 2) := add_sq_le
    _ = 2 := by rw [sq_abs, sq_abs, Real.cos_sq_add_sin_sq, mul_one]

/-- The reason 40_q31_datapath.md R145 gives: a ROM pair is a quantised point of the unit circle. -/
theorem abs_twEntry_add_le {p : Params} {m : Nat} (hm : m < 3 * p.nmax / 4) :
    ((|s32 (twEntry p m).re| + |s32 (twEntry p m).im| : Int) : ℝ) ≤ Real.sqrt 2 * 2 ^ 31 + 2 := by
  obtain ⟨hre, him⟩ := twiddleRomIsQuantisedCosine p m hm
  have hcos := abs_q31_le (Real.cos (2 * Real.pi * m / p.nmax))
  have hsin := abs_q31_le (-Real.sin (2 * Real.pi * m / p.nmax))
  have hcircle := abs_cos_add_abs_sin_le (2 * Real.pi * m / p.nmax)
  rw [abs_neg] at hsin
  rw [s32, s32, hre, him]
  push_cast
  linarith

/-- The bound in whole numbers, with room to spare: the square root of 2 is below 3 / 2. -/
theorem abs_add_lt_two_pow_32 {c s : Int} (h : ((|c| + |s| : Int) : ℝ) ≤ Real.sqrt 2 * 2 ^ 31 + 2) :
    |c| + |s| < 2 ^ 32 := by
  have hsqrt : Real.sqrt 2 < 3 / 2 := (Real.sqrt_lt' (by norm_num)).mpr (by norm_num)
  have hreal : ((|c| + |s| : Int) : ℝ) < ((2 ^ 32 : Int) : ℝ) := by
    push_cast at h ⊢
    linarith
  exact_mod_cast hreal

theorem abs_s32_le (w : Word) : |s32 w| ≤ 2 ^ 31 := by
  obtain ⟨hlow, hhigh⟩ := s32_range w
  exact abs_le.mpr ⟨hlow, hhigh.le⟩

/-- A sum of two products, the operand's parts at most 2^31 in size and the twiddle's below 2^32 together. -/
theorem abs_mul_add_mul_lt {a b c s : Int} (ha : |a| ≤ 2 ^ 31) (hb : |b| ≤ 2 ^ 31) (hcs : |c| + |s| < 2 ^ 32) :
    |a * c + b * s| < 2 ^ 63 :=
  calc |a * c + b * s| ≤ |a| * |c| + |b| * |s| := by rw [← abs_mul, ← abs_mul]; exact abs_add_le _ _
    _ ≤ 2 ^ 31 * |c| + 2 ^ 31 * |s| := by gcongr
    _ < 2 ^ 63 := by linarith

/-- Both parts of both complex products stay below 2^63 in size (40_q31_datapath.md R143, R145). -/
theorem abs_cmac_lt {x w : Cplx} (hw : |s32 w.re| + |s32 w.im| < 2 ^ 32) :
    ∀ acc ∈ [(cmacFwd x w).1, (cmacFwd x w).2, (cmacInv x w).1, (cmacInv x w).2], |acc| < 2 ^ 63 := by
  have hre := abs_s32_le x.re
  have him := abs_s32_le x.im
  have hre' : |-s32 x.re| ≤ 2 ^ 31 := by rwa [abs_neg]
  have him' : |-s32 x.im| ≤ 2 ^ 31 := by rwa [abs_neg]
  have hw' : |s32 w.im| + |s32 w.re| < 2 ^ 32 := by rwa [add_comm]
  simp only [cmacFwd, cmacInv, prod, List.forall_mem_cons, sub_eq_add_neg, ← neg_mul]
  exact ⟨abs_mul_add_mul_lt hre him' hw, abs_mul_add_mul_lt hre him hw', abs_mul_add_mul_lt hre him hw,
    abs_mul_add_mul_lt him hre' hw, List.forall_mem_nil _⟩

/-- Settles O34: the ROM's pairs are quantised points of the unit circle, which bounds the two complex products. -/
theorem twiddleAccumulationsFit64Bits : Obligations.TwiddleAccumulationsFit64Bits := by
  rintro p m c s hm rfl rfl
  have hpair := abs_twEntry_add_le hm
  refine ⟨hpair, fun x => ⟨abs_s32_le x.re, abs_s32_le x.im, fun acc hacc => ?_⟩⟩
  have hlt : |acc| < 2 ^ 63 := abs_cmac_lt (abs_add_lt_two_pow_32 hpair) acc hacc
  obtain ⟨hlow, hhigh⟩ := abs_lt.mp hlt
  exact ⟨hlt, s64_u64_of_range hlow.le hhigh⟩

end Sys2Proof.Machine

/-! The shape of a butterfly pass (41_butterfly.md R170 to R174, R190). Stage `k` of a pass, with `r` stages after it, has
quarters of 4^r samples and 4^k blocks. Written with `k` and `r` the three kinds of stage have one closed form, and the
counts, the twiddle indices and the sample indices are read off it. -/

namespace Sys2Proof.Machine

/-- The kind of every butterfly of stage `k` with `r` stages after it (41_butterfly.md R171). -/
def stageKind (k r : Nat) : Kind := if r = 0 then .last else if k = 0 then .first else .middle

/-- The butterfly at place `j` of the quarter of block `q`, in stage `k` with `r` stages after it. -/
def stageBfly (m k r j q : Nat) : Bfly where
  kind := stageKind k r
  i0 := j + 4 ^ (r + 1) * q
  n2 := 4 ^ r
  k := j
  ms := if r = 0 then 0 else m * 4 ^ k

/-- Stage `k` with `r` stages after it, of a pass with first-stage modifier `m`. -/
def stageOf (m k r : Nat) : List Bfly :=
  (List.range (4 ^ r)).flatMap fun j => (List.range (4 ^ k)).map (stageBfly m k r j)

theorem mem_stageOf {m k r : Nat} {b : Bfly} :
    b ∈ stageOf m k r ↔ ∃ j < 4 ^ r, ∃ q < 4 ^ k, b = stageBfly m k r j q := by
  simp [stageOf, eq_comm]

theorem length_stageOf (m k r : Nat) : (stageOf m k r).length = 4 ^ (k + r) := by
  simp [stageOf, List.length_flatMap, List.map_const', pow_add, mul_comm]

theorem four_pow_succ_div_four (a : Nat) : 4 ^ (a + 1) / 4 = 4 ^ a := by
  rw [pow_succ, Nat.mul_div_cancel _ (by norm_num)]

/-! The model's stages have the closed form. -/

theorem firstStage_eq_stageOf (m r : Nat) : firstStage (4 ^ (r + 2)) m = stageOf m 0 (r + 1) := by
  have hquarter : 4 ^ (r + 2) / 4 = 4 ^ (r + 1) := four_pow_succ_div_four (r + 1)
  simp [firstStage, stageOf, stageBfly, stageKind, hquarter, List.map_eq_flatMap]

theorem lastStage_eq_stageOf (m k : Nat) : lastStage (4 ^ (k + 1)) = stageOf m k 0 := by
  simp [lastStage, stageOf, stageBfly, stageKind, four_pow_succ_div_four]

/-- Of `c` blocks, one begins at each place of the first block every `n1` samples. -/
theorem blockStarts_mul {c n1 j : Nat} (hj : j < n1) :
    blockStarts (c * n1) n1 j = (List.range c).map fun q => j + n1 * q := by
  have hcount : (c * n1 - j + n1 - 1) / n1 = c := by
    rcases c with _ | c
    · exact Nat.div_eq_of_lt (by omega)
    · refine Nat.div_eq_of_lt_le ?_ ?_ <;> simp only [Nat.add_mul, Nat.one_mul] <;> omega
  rw [blockStarts, hcount]
  exact List.ext_getElem (by simp) fun q _ _ => by simp

theorem middleStage_eq_stageOf (m k r : Nat) :
    middleStage (4 ^ (k + 1 + (r + 2))) (4 ^ (r + 2)) (4 ^ (r + 1)) (m * 4 ^ (k + 1)) = stageOf m (k + 1) (r + 1) := by
  refine List.flatMap_congr fun j hj => ?_
  have hblock : j < 4 ^ (r + 2) := by
    have := List.mem_range.mp hj
    rw [pow_succ]
    omega
  rw [pow_add 4 (k + 1), blockStarts_mul hblock, List.map_map]
  simp [stageBfly, stageKind, Function.comp_def]

/-- The loop of 41_butterfly.md R170 from stage `k + 1` on, and the last stage, when `r` stages follow stage `k + 1`. -/
theorem middleStages_append_lastStage (m : Nat) {fuel k r : Nat} (hr : r ≤ fuel) :
    middleStages fuel (4 ^ (k + 1 + (r + 1))) (4 ^ (r + 1)) (m * 4 ^ (k + 1)) (4 ^ (r + 1)) ++
        [lastStage (4 ^ (k + 1 + (r + 1)))] =
      (List.range (r + 1)).map fun i => stageOf m (k + i + 1) (r - i) := by
  induction r generalizing fuel k with
  | zero =>
    have hdone : middleStages fuel (4 ^ (k + 1 + 1)) 4 (m * 4 ^ (k + 1)) 4 = [] := by
      cases fuel <;> rfl
    simp [hdone, lastStage_eq_stageOf m]
  | succ r ih =>
    obtain ⟨fuel, rfl⟩ : ∃ f, fuel = f + 1 := ⟨fuel - 1, by omega⟩
    have hmore : 4 < 4 ^ (r + 2) := by
      have := Nat.one_le_pow r 4 (by norm_num)
      rw [pow_add]
      omega
    have hrest := ih (fuel := fuel) (k := k + 1) (by omega)
    have hlen : k + 1 + 1 + (r + 1) = k + 1 + (r + 2) := by omega
    rw [hlen] at hrest
    rw [middleStages, if_pos hmore, four_pow_succ_div_four, middleStage_eq_stageOf, mul_left_comm, ← pow_succ',
      List.cons_append, hrest, List.range_succ_eq_map (n := r + 1), List.map_cons, List.map_map]
    simp [Function.comp_def, ← add_assoc, add_right_comm _ _ 1]

/-- The stages of a pass of length 4^(r + 1), for every length below 4^18: the loop's bound of 16 turns is not met. -/
theorem passStages_four_pow (m : Nat) {r : Nat} (hr : r ≤ 17) :
    passStages (4 ^ (r + 1)) m = (List.range (r + 1)).map fun k => stageOf m k (r - k) := by
  cases r with
  | zero => simp [passStages, ← lastStage_eq_stageOf m 0]
  | succ r =>
    have hlong : 4 ^ (r + 2) ≠ 4 := by
      have := Nat.one_le_pow r 4 (by norm_num)
      rw [pow_add]
      omega
    have hrest := middleStages_append_lastStage m (fuel := 16) (k := 0) (r := r) (by omega)
    have hlen : 0 + 1 + (r + 1) = r + 2 := by omega
    rw [hlen, zero_add, pow_one, mul_comm m] at hrest
    rw [passStages, if_neg hlong, firstStage_eq_stageOf, four_pow_succ_div_four, hrest,
      List.range_succ_eq_map (n := r + 1), List.map_cons, List.map_map]
    simp [Function.comp_def]

/-- Stage `k` of a pass of length 4^e, with `r` the number of stages after it. -/
theorem passStages_getElem?_eq_some {p : Params} {m e k : Nat} {stage : List Bfly} (h₁ : 1 ≤ e) (h₂ : e ≤ p.log4Nmax) :
    (passStages (4 ^ e) m)[k]? = some stage ↔ ∃ r, e = k + 1 + r ∧ stage = stageOf m k r := by
  obtain ⟨-, hmax⟩ := Params.log4Nmax_le p
  obtain ⟨d, rfl⟩ := Nat.exists_eq_add_of_le' h₁
  rw [passStages_four_pow m (by omega), List.getElem?_eq_some_iff]
  simp only [List.length_map, List.length_range, List.getElem_map, List.getElem_range]
  constructor
  · rintro ⟨hk, rfl⟩
    exact ⟨d - k, by omega, rfl⟩
  · rintro ⟨r, hd, rfl⟩
    have hr : d - k = r := by omega
    exact ⟨by omega, by rw [hr]⟩

theorem length_passStages {p : Params} (m : Nat) {e : Nat} (h₁ : 1 ≤ e) (h₂ : e ≤ p.log4Nmax) :
    (passStages (4 ^ e) m).length = e := by
  obtain ⟨-, hmax⟩ := Params.log4Nmax_le p
  obtain ⟨d, rfl⟩ := Nat.exists_eq_add_of_le' h₁
  rw [passStages_four_pow m (by omega), List.length_map, List.length_range]

/-! What a butterfly of stage `k` is (41_butterfly.md R171 to R174). -/

/-- The quarter of stage `k` is N / 4^(k+1). -/
theorem stageBfly_n2 (m k r j q : Nat) : (stageBfly m k r j q).n2 = 4 ^ (k + 1 + r) / 4 ^ (k + 1) := by
  rw [pow_add, Nat.mul_div_cancel_left _ (Nat.pow_pos (by norm_num))]
  rfl

theorem stageBfly_ms_of_pos (m k : Nat) {r : Nat} (j q : Nat) (hr : 0 < r) : (stageBfly m k r j q).ms = m * 4 ^ k :=
  if_neg hr.ne'

/-- The twiddle exponent is the place in the quarter: the blocks before it are whole quarters. -/
theorem stageBfly_k {m k r j q : Nat} (hj : j < 4 ^ r) :
    (stageBfly m k r j q).k = (stageBfly m k r j q).i0 % (stageBfly m k r j q).n2 := by
  simp only [stageBfly]
  rw [pow_succ, mul_assoc, Nat.add_mul_mod_self_left, Nat.mod_eq_of_lt hj]

/-- Settles O24: the closed form of the stages, read off field by field. -/
theorem passHasLog4Stages : Obligations.PassHasLog4Stages := by
  rintro p n m e h₁ h₂ rfl
  refine ⟨length_passStages m h₁ h₂, fun k stage hstage => ?_⟩
  obtain ⟨r, rfl, rfl⟩ := (passStages_getElem?_eq_some h₁ h₂).mp hstage
  refine ⟨?_, fun b hb => ?_⟩
  · rw [length_stageOf, add_right_comm, four_pow_succ_div_four]
  obtain ⟨j, hj, q, -, rfl⟩ := mem_stageOf.mp hb
  refine ⟨?_, fun _ => stageBfly_n2 m k r j q, fun hk => ?_⟩
  · simp [stageBfly, stageKind]
  have hms := stageBfly_ms_of_pos m k j q (show 0 < r by omega)
  refine ⟨hms, fun hm => ?_, stageBfly_k hj⟩
  rw [hms, ← hm, Nat.mul_div_cancel _ (Nat.pow_pos (by norm_num))]

/-- Each of the three twiddle indices is at most that of W^3k at the last place of the quarter (41_butterfly.md R181). -/
theorem stageBfly_index_le {m k r j q : Nat} (hj : j < 4 ^ r) (hr : 0 < r) {b : Bfly} (hb : b = stageBfly m k r j q) :
    ∀ index ∈ [b.k * b.ms, 2 * b.k * b.ms, 3 * b.k * b.ms], index ≤ 3 * (4 ^ r - 1) * (m * 4 ^ k) := by
  have hms : b.ms = m * 4 ^ k := hb ▸ stageBfly_ms_of_pos m k j q hr
  have hplace : b.k = j := hb ▸ rfl
  rw [hms, hplace]
  simp only [List.forall_mem_cons]
  exact ⟨Nat.mul_le_mul_right _ (by omega), Nat.mul_le_mul_right _ (by omega), Nat.mul_le_mul_right _ (by omega),
    List.forall_mem_nil _⟩

/-- Settles O25: the twiddle exponents run over the places 0 to 4^r - 1 of the quarter, and the quarter times the modifier
is NMAX / 4 in every stage. -/
theorem twiddleIndicesStayInRom : Obligations.TwiddleIndicesStayInRom := by
  rintro p n m e k stage h₁ h₂ rfl hm hk hstage top rfl
  obtain ⟨r, rfl, rfl⟩ := (passStages_getElem?_eq_some h₁ h₂).mp hstage
  have hr : 0 < r := by omega
  have hplaces : 0 < 4 ^ r := Nat.pow_pos (by norm_num)
  have hblocks : 0 < 4 ^ k := Nat.pow_pos (by norm_num)
  have hmod : p.nmax / 4 ^ (k + 1 + r) = m := by rw [← hm, Nat.mul_div_cancel _ (Nat.pow_pos (by norm_num))]
  have hquarter : 4 ^ (k + 1 + r) / 4 ^ (k + 1) = 4 ^ r := (stageBfly_n2 m k r 0 0).symm
  rw [hmod, hquarter, mul_comm (4 ^ k) m]
  have hnmax : p.nmax = 4 * (4 ^ r * (m * 4 ^ k)) := by rw [← hm]; ring
  have hms : 0 < m * 4 ^ k := Nat.mul_pos (Nat.pos_of_mul_pos_right (hm ▸ Params.nmax_pos p)) hblocks
  have hle : m * 4 ^ k ≤ 4 ^ r * (m * 4 ^ k) := Nat.le_mul_of_pos_left _ hplaces
  have htop : 3 * (4 ^ r - 1) * (m * 4 ^ k) = 3 * (4 ^ r * (m * 4 ^ k) - m * 4 ^ k) := by
    rw [mul_assoc, Nat.sub_mul, one_mul]
  refine ⟨?_, ?_, ?_, fun b hb => ?_, ?_, ?_⟩
  · rw [htop, hnmax]; omega
  · rw [htop, hnmax]; omega
  · rw [htop, twDepth, hnmax]; omega
  · obtain ⟨j, hj, q, -, hb⟩ := mem_stageOf.mp hb
    exact stageBfly_index_le hj hr hb
  · exact ⟨_, mem_stageOf.mpr ⟨4 ^ r - 1, by omega, 0, hblocks, rfl⟩, by rw [stageBfly_ms_of_pos _ _ _ _ hr]; rfl⟩
  · exact ⟨_, mem_stageOf.mpr ⟨0, hplaces, 0, hblocks, rfl⟩, Nat.zero_mul _⟩

end Sys2Proof.Machine

/-! The reach of a butterfly pass in the RAM (41_butterfly.md R192), and the pass of length 4 (R175). A pass is one fold of
butterflies, and each butterfly reads and writes four samples below N. -/

namespace Sys2Proof.Machine

/-! One butterfly. -/

/-- The four slots of block `q` of the quarters of 4^r samples: below the block's end, and so below N. -/
theorem stageBfly_index_lt {m k r j q slot : Nat} (hj : j < 4 ^ r) (hq : q < 4 ^ k) (hslot : slot < 4) :
    (stageBfly m k r j q).index slot < 4 ^ (k + 1 + r) := by
  have hinblock : j + slot * 4 ^ r < 4 ^ (r + 1) :=
    calc j + slot * 4 ^ r < (slot + 1) * 4 ^ r := by rw [Nat.succ_mul]; omega
      _ ≤ 4 * 4 ^ r := Nat.mul_le_mul_right _ hslot
      _ = 4 ^ (r + 1) := (pow_succ' ..).symm
  calc (stageBfly m k r j q).index slot = j + slot * 4 ^ r + 4 ^ (r + 1) * q := by
        simp only [Bfly.index, stageBfly]; omega
    _ < 4 ^ (r + 1) * (q + 1) := by rw [Nat.mul_succ]; omega
    _ ≤ 4 ^ (r + 1) * 4 ^ k := Nat.mul_le_mul_left _ hq
    _ = 4 ^ (k + 1 + r) := by ring

/-- Every butterfly of a pass has its four samples below N (41_butterfly.md R176). -/
theorem index_lt_of_mem_passStages {p : Params} {n m slot : Nat} {stage : List Bfly} {b : Bfly} (hn : p.LegalLength n)
    (hstage : stage ∈ passStages n m) (hb : b ∈ stage) (hslot : slot < 4) : b.index slot < n := by
  obtain ⟨e, h₁, h₂, rfl⟩ := hn
  obtain ⟨k, hk⟩ := List.mem_iff_getElem?.mp hstage
  obtain ⟨r, rfl, rfl⟩ := (passStages_getElem?_eq_some h₁ h₂).mp hk
  obtain ⟨j, hj, q, hq, rfl⟩ := mem_stageOf.mp hb
  exact stageBfly_index_lt hj hq hslot

/-- A butterfly with its four samples below `n` leaves every byte outside them alone. -/
theorem readByte_runBfly_of_outside {p : Params} {d : Dir} {r : Ram} {b : Bfly} {n a : Nat}
    (hb : ∀ slot < 4, b.index slot < n) (ha : a < ramStart ∨ ramStart + 8 * n ≤ a) :
    (runBfly p d r b).readByte a = r.readByte a := by
  have hout : ∀ slot < 4, a < ramStart + 8 * b.index slot ∨ ramStart + 8 * b.index slot + 8 ≤ a := fun slot hslot => by
    have := hb slot hslot
    omega
  rw [runBfly, writeQuad, Ram.readByte_setSample_of_outside (hout 3 (by norm_num)),
    Ram.readByte_setSample_of_outside (hout 2 (by norm_num)), Ram.readByte_setSample_of_outside (hout 1 (by norm_num)),
    Ram.readByte_setSample_of_outside (hout 0 (by norm_num))]

/-- Two RAMs hold the same first `n` samples. -/
def Ram.AgreeBelow (n : Nat) (r r' : Ram) : Prop := ∀ i < n, r.sample i = r'.sample i

theorem Ram.agreeBelow_iff {n : Nat} {r r' : Ram} :
    Ram.AgreeBelow n r r' ↔ ∀ w < 2 * n, r.readWord w = r'.readWord w := by
  constructor
  · intro h w hw
    have hsample : r.sample (w / 2) = r'.sample (w / 2) := h _ (by omega)
    simp only [Ram.sample, Cplx.mk.injEq] at hsample
    obtain ⟨hre, him⟩ := hsample
    obtain hw | hw : w = 2 * (w / 2) ∨ w = 2 * (w / 2) + 1 := by omega
    · rw [hw, hre]
    · rw [hw, him]
  · intro h i hi
    simp only [Ram.sample, h (2 * i) (by omega), h (2 * i + 1) (by omega)]

theorem Ram.AgreeBelow.setSample {n : Nat} {r r' : Ram} (h : Ram.AgreeBelow n r r') (i : Nat) (x : Cplx) :
    Ram.AgreeBelow n (r.setSample i x) (r'.setSample i x) := fun j hj => by
  rw [Ram.sample_setSample, Ram.sample_setSample, h j hj]

/-- A butterfly reads and writes below `n`, so it keeps the agreement. -/
theorem Ram.AgreeBelow.butterfly {n : Nat} {r r' : Ram} (h : Ram.AgreeBelow n r r') (p : Params) (d : Dir) {b : Bfly}
    (hb : ∀ slot < 4, b.index slot < n) : Ram.AgreeBelow n (runBfly p d r b) (runBfly p d r' b) := by
  have hread : readQuad r b = readQuad r' b := by
    simp only [readQuad, h _ (hb 0 (by norm_num)), h _ (hb 1 (by norm_num)), h _ (hb 2 (by norm_num)),
      h _ (hb 3 (by norm_num))]
  rw [runBfly, runBfly, hread]
  exact (((h.setSample _ _).setSample _ _).setSample _ _).setSample _ _

/-! The pass. -/

/-- A pass is one fold over the butterflies of its stages in order. -/
theorem runPass_eq_foldl (p : Params) (d : Dir) (n m : Nat) (r : Ram) :
    runPass p d n m r = (passStages n m).flatten.foldl (runBfly p d) r :=
  List.foldl_flatten.symm

section Pass

variable {p : Params} {n m : Nat} (hn : p.LegalLength n)
include hn

theorem index_lt_of_mem_pass {b : Bfly} (hb : b ∈ (passStages n m).flatten) : ∀ slot < 4, b.index slot < n := by
  obtain ⟨stage, hstage, hb⟩ := List.mem_flatten.mp hb
  exact fun _ => index_lt_of_mem_passStages hn hstage hb

theorem readByte_runPass_of_outside (d : Dir) (r : Ram) {a : Nat} (ha : a < ramStart ∨ ramStart + 8 * n ≤ a) :
    (runPass p d n m r).readByte a = r.readByte a := by
  rw [runPass_eq_foldl]
  exact List.foldlRecOn (motive := fun r' : Ram => r'.readByte a = r.readByte a) _ _ rfl fun r' hr' b hb =>
    (readByte_runBfly_of_outside (index_lt_of_mem_pass hn hb) ha).trans hr'

theorem Ram.AgreeBelow.pass {r r' : Ram} (h : Ram.AgreeBelow n r r') (d : Dir) :
    Ram.AgreeBelow n (runPass p d n m r) (runPass p d n m r') := by
  rw [runPass_eq_foldl, runPass_eq_foldl]
  exact List.foldl_rel h fun b hb _ _ hagree => hagree.butterfly p d (index_lt_of_mem_pass hn hb)

end Pass

theorem runPass_era (p : Params) (d : Dir) (n m : Nat) (r : Ram) : (runPass p d n m r).era = r.era := by
  rw [runPass_eq_foldl]
  exact List.foldlRecOn (motive := fun r' : Ram => r'.era = r.era) _ _ rfl fun r' hr' b _ =>
    (runBfly_era p d r' b).trans hr'

/-! Each of the two commands completes with the pass of its own direction (41_butterfly.md R185, R186). -/

theorem exec_bflyFwd_runPass {s : State} {p : Pending} (h : s.pending = some p) :
    exec .bflyFwd s = .next { completedState s with ram := runPass s.params .fwd p.n.toNat p.m.toNat s.ram } :=
  exec_bflyFwd_of_some h

theorem exec_bflyInv_runPass {s : State} {p : Pending} (h : s.pending = some p) :
    exec .bflyInv s = .next { completedState s with ram := runPass s.params .inv p.n.toNat p.m.toNat s.ram } :=
  exec_bflyInv_of_some h

theorem exists_dir_exec_runPass {i : Instr} (hi : i = .bflyFwd ∨ i = .bflyInv) :
    ∃ d : Dir, ∀ {s : State} {p : Pending}, s.pending = some p →
      exec i s = .next { completedState s with ram := runPass s.params d p.n.toNat p.m.toNat s.ram } := by
  rcases hi with rfl | rfl
  · exact ⟨.fwd, exec_bflyFwd_runPass⟩
  · exact ⟨.inv, exec_bflyInv_runPass⟩

/-- Settles O22: the frame and the dependence of one butterfly, carried along the fold of the pass. -/
theorem butterflyPassStaysInBuffer : Obligations.ButterflyPassStaysInBuffer := by
  intro i s p hi hp hn
  obtain ⟨d, hexec⟩ := exists_dir_exec_runPass hi
  refine ⟨_, hexec hp, runPass_era .., fun a ha => readByte_runPass_of_outside hn d s.ram ha, fun r₁ hr₁ => ?_⟩
  have hagree : Ram.AgreeBelow p.n.toNat r₁ s.ram := Ram.agreeBelow_iff.mpr hr₁
  exact ⟨_, hexec hp, Ram.agreeBelow_iff.mp (hagree.pass hn d)⟩

/-! The pass of length 4. -/

/-- A pass of length 4 is one LAST butterfly on X[0..3] (41_butterfly.md R175). -/
theorem runPass_four (p : Params) (d : Dir) (m : Nat) (r : Ram) :
    runPass p d 4 m r = runBfly p d r { kind := .last, i0 := 0, n2 := 1, k := 0, ms := 0 } := rfl

/-- A LAST butterfly writes the four combinations as they are (41_butterfly.md R184). -/
theorem bflyOut_last (p : Params) (d : Dir) {b : Bfly} (q : Quad) (hb : b.kind = .last) :
    bflyOut p d b q = combine d q := by
  simp only [bflyOut, hb, preShift]

/-- The four combinations in the arithmetic of words mod 2^32 (41_butterfly.md R178, R179). -/
theorem combine_fwd (a b c d : Cplx) :
    combine .fwd ⟨a, b, c, d⟩ =
      ⟨⟨a.re + b.re + c.re + d.re, a.im + b.im + c.im + d.im⟩,
        ⟨a.re - b.re + c.re - d.re, a.im - b.im + c.im - d.im⟩,
        ⟨a.re + b.im - c.re - d.im, a.im - b.re - c.im + d.re⟩,
        ⟨a.re - b.im - c.re + d.im, a.im + b.re - c.im - d.re⟩⟩ := by
  simp only [combine, add32_eq, sub32_eq, Quad.mk.injEq, Cplx.mk.injEq]
  refine ⟨⟨?_, ?_⟩, ⟨?_, ?_⟩, ⟨?_, ?_⟩, ?_, ?_⟩ <;> ring

/-- For INV the two cross terms change places (41_butterfly.md R180). -/
theorem combine_inv (q : Quad) :
    combine .inv q = ⟨(combine .fwd q).x0, (combine .fwd q).x1, (combine .fwd q).x3, (combine .fwd q).x2⟩ := rfl

/-- What a butterfly with distinct indices leaves is what it wrote. -/
theorem readQuad_runBfly {b : Bfly} (hb : 0 < b.n2) (p : Params) (d : Dir) (r : Ram) :
    readQuad (runBfly p d r b) b = bflyOut p d b (readQuad r b) := by
  simp only [readQuad, runBfly, writeQuad, Ram.sample_setSample, Bfly.index]
  simp [hb.ne']

theorem readQuad_runPass_four (p : Params) (d : Dir) (m : Nat) (r : Ram) :
    (⟨(runPass p d 4 m r).sample 0, (runPass p d 4 m r).sample 1, (runPass p d 4 m r).sample 2,
      (runPass p d 4 m r).sample 3⟩ : Quad) = combine d ⟨r.sample 0, r.sample 1, r.sample 2, r.sample 3⟩ := by
  rw [runPass_four]
  exact (readQuad_runBfly (by norm_num) p d r).trans (bflyOut_last p d _ rfl)

/-- Settles O32: the one LAST butterfly of the pass, its combinations in the slots of the direction. -/
theorem fourPointPassFormula : Obligations.FourPointPassFormula := by
  rintro s p hp hn a b c d rfl rfl rfl rfl
  have hlen : p.n.toNat = 4 := by rw [hn]; rfl
  have hfwd := readQuad_runPass_four s.params .fwd p.m.toNat s.ram
  have hinv := readQuad_runPass_four s.params .inv p.m.toNat s.ram
  rw [combine_inv] at hinv
  rw [combine_fwd, Quad.mk.injEq] at hfwd hinv
  have hexecFwd := exec_bflyFwd_runPass hp
  have hexecInv := exec_bflyInv_runPass hp
  rw [hlen] at hexecFwd hexecInv
  exact ⟨⟨_, hexecFwd, hfwd⟩, ⟨_, hexecInv, hinv⟩⟩

end Sys2Proof.Machine

/-! The bus error (60_exceptions.md R257). The spec gives its causes by offset and the model by place: each region and
each lock of the address map is matched with the place that stands there. -/

namespace Sys2Proof.Machine

/-! The address map of the spec's text against the places of the model. -/

theorem Reg.offset_lt (r : Reg) : r.offset < 0x38 := by
  cases r <;> decide

theorem exists_offset_of_aligned {off : Nat} (halign : off % 4 = 0) (hlt : off < 0x38) : ∃ r : Reg, off = r.offset := by
  have hreg : ∀ k < 14, (regAt (4 * k)).isSome = true := by decide
  obtain ⟨k, rfl⟩ := Nat.dvd_of_mod_eq_zero halign
  obtain ⟨r, hr⟩ := Option.isSome_iff_exists.mp (hreg k (by omega))
  exact ⟨r, regAt_eq_some.mp hr⟩

/-- The regions of the map, as far as they are mapped, are the aligned offsets where a place stands (20_memory.md R71 to
R73). -/
theorem mappedOffset_iff {p : Params} {off : Nat} (halign : off % 4 = 0) :
    MappedOffset p off ↔ ∃ l, placeAt p off = some l := by
  constructor
  · rintro (hreg | ⟨hlo, hhi⟩ | ⟨hlo, hhi⟩ | ⟨hlo, hhi⟩)
    · obtain ⟨r, hr⟩ := exists_offset_of_aligned halign hreg
      exact ⟨.reg r, placeAt_eq_some.mpr hr⟩
    · exact ⟨.ram _, placeAt_eq_some.mpr ⟨hlo, hhi, rfl⟩⟩
    · exact ⟨.tw _, placeAt_eq_some.mpr ⟨hlo, hhi, rfl⟩⟩
    · exact ⟨.br _, placeAt_eq_some.mpr ⟨hlo, hhi, rfl⟩⟩
  · rintro ⟨l, hl⟩
    have hplace := placeAt_eq_some.mp hl
    cases l with
    | reg r => exact .inl (hplace ▸ r.offset_lt)
    | ram w => exact .inr (.inl ⟨hplace.1, hplace.2.1⟩)
    | tw w => exact .inr (.inr (.inl ⟨hplace.1, hplace.2.1⟩))
    | br i => exact .inr (.inr (.inr ⟨hplace.1, hplace.2.1⟩))

theorem guardedOffset_iff {p : Params} {off : Nat} {l : Place} (hl : placeAt p off = some l) :
    GuardedOffset p off ↔ l.guarded = true := by
  obtain ⟨-, hn⟩ := Params.nmax_bounds p
  have hplace := placeAt_eq_some.mp hl
  unfold GuardedOffset Place.guarded
  cases l with
  | reg r =>
    subst hplace
    cases r <;> simp [Reg.offset, Reg.guarded]
  | ram w => exact iff_of_true (.inr ⟨hplace.1, hplace.2.1⟩) rfl
  | tw w =>
    refine iff_of_false ?_ Bool.false_ne_true
    simp only [List.mem_cons, List.not_mem_nil, or_false]
    omega
  | br i =>
    refine iff_of_false ?_ Bool.false_ne_true
    simp only [List.mem_cons, List.not_mem_nil, or_false]
    omega

/-- The read-only locations are those whose place stores nothing (20_memory.md R77 to R80). -/
theorem readOnlyOffset_iff {p : Params} {off : Nat} {l : Place} (hl : placeAt p off = some l) (v : Word) (s : State) :
    ReadOnlyOffset p off ↔ storePlace l v s = none := by
  obtain ⟨-, hn⟩ := Params.nmax_bounds p
  have hplace := placeAt_eq_some.mp hl
  unfold ReadOnlyOffset
  cases l with
  | reg r =>
    subst hplace
    cases r <;> simp [Reg.offset, storePlace]
  | ram w =>
    refine iff_of_false ?_ (Option.some_ne_none _)
    simp only [List.mem_cons, List.not_mem_nil, or_false]
    omega
  | tw w => exact iff_of_true (.inr (.inl ⟨hplace.1, hplace.2.1⟩)) rfl
  | br i => exact iff_of_true (.inr (.inr ⟨hplace.1, hplace.2.1⟩)) rfl

/-- A transaction with no cause of a bus error is one that is admitted to a place and does not write what is read-only. -/
theorem not_busErrorCause_iff {s : State} {t : Txn} {off : Nat} : ¬BusErrorCause s t off ↔
    (∃ l, admitted t.bytes off s = some l) ∧ ¬(t.IsWrite ∧ ReadOnlyOffset s.params off) := by
  unfold BusErrorCause
  simp only [not_or, not_not, admitted_eq_some]
  constructor
  · rintro ⟨⟨hbytes, halign⟩, hmapped, hro, hguard⟩
    obtain ⟨l, hl⟩ := (mappedOffset_iff halign).mp hmapped
    exact ⟨⟨l, hbytes, halign, hl, fun ⟨hbusy, hlg⟩ => hguard ⟨(guardedOffset_iff hl).mpr hlg, hbusy⟩⟩, hro⟩
  · rintro ⟨⟨l, hbytes, halign, hl, hguard⟩, hro⟩
    exact ⟨⟨hbytes, halign⟩, (mappedOffset_iff halign).mpr ⟨l, hl⟩, hro,
      fun ⟨hgo, hbusy⟩ => hguard ⟨hbusy, (guardedOffset_iff hl).mp hgo⟩⟩

/-! The answer of a command and of a write. -/

/-- Presenting or completing a command answers a next state and leaves the answer to the host alone. -/
theorem exists_exec_next (i : Instr) (s : State) : ∃ u, exec i s = .next u ∧ u.response = s.response := by
  cases hp : s.pending with
  | none =>
    refine ⟨_, exec_of_none hp, ?_⟩
    obtain ⟨-, haccept⟩ | ⟨e, -, haccept⟩ := accept_cases i s <;> rw [haccept] <;> rfl
  | some p =>
    cases i with
    | nop => exact ⟨_, exec_nop_of_some hp, rfl⟩
    | xform => exact ⟨_, exec_xform_of_some hp, transformOf_response s p⟩
    | bflyFwd => exact ⟨_, exec_bflyFwd_of_some hp, rfl⟩
    | bflyInv => exact ⟨_, exec_bflyInv_of_some hp, rfl⟩
    | bitrev => exact ⟨_, exec_bitrev_of_some hp, rfl⟩
    | macClr => exact ⟨_, exec_macClr_of_some hp, rfl⟩
    | macMul => exact ⟨_, exec_macMul_of_some hp, rfl⟩
    | macMla => exact ⟨_, exec_macMla_of_some hp, rfl⟩
    | macMls => exact ⟨_, exec_macMls_of_some hp, rfl⟩
    | macRdw sh => exact ⟨_, exec_macRdw_of_some hp sh, rfl⟩
    | macRds sh => exact ⟨_, exec_macRds_of_some hp sh, rfl⟩

theorem exists_presentWord_next (w : Word) (s : State) : ∃ u, presentWord w s = .next u ∧ u.response = s.response := by
  unfold presentWord
  cases decode w with
  | error e => exact ⟨_, rfl, rfl⟩
  | ok i => exact exists_exec_next i s

theorem writeAt_of_storePlace_none {l : Place} {v : Word} {s : State} (h : storePlace l v s = none) :
    writeAt l v s = .next (raiseBusError s) := by
  have hcmd : l ≠ .reg .cmd := by
    rintro rfl
    cases h
  unfold writeAt
  rw [if_neg hcmd, h]

theorem exists_writeAt_next {l : Place} {v : Word} {s : State} (h : storePlace l v s ≠ none) :
    ∃ u, writeAt l v s = .next u ∧ u.response = some .written := by
  obtain ⟨x, hx⟩ := Option.ne_none_iff_exists'.mp h
  unfold writeAt
  split_ifs with hcmd
  · exact exists_presentWord_next v _
  · rw [hx]
    exact ⟨_, rfl, rfl⟩

/-! A transaction inside the window. -/

section Window

variable {s : State} {t : Txn} {off a n : Nat} {l : Place}

theorem hostAccess_of_not_admitted (ha : t.addr = s.params.base + off) (hoff : off < 0x20000)
    (hm : admitted t.bytes off s = none) : hostAccess t s = .next (raiseBusError s) := by
  unfold hostAccess
  rw [ha, offsetOf_base_add hoff]
  dsimp only
  rw [hm]

theorem hostAccess_read_of_admitted (ha : a = s.params.base + off) (hoff : off < 0x20000)
    (hm : admitted n off s = some l) : hostAccess (.read a n) s = readAt l s := by
  unfold hostAccess
  rw [Txn.addr, ha, offsetOf_base_add hoff]
  dsimp only
  rw [Txn.bytes, hm]

theorem hostAccess_write_of_admitted (v : Word) (ha : a = s.params.base + off) (hoff : off < 0x20000)
    (hm : admitted n off s = some l) : hostAccess (.write a n v) s = writeAt l v s := by
  unfold hostAccess
  rw [Txn.addr, ha, offsetOf_base_add hoff]
  dsimp only
  rw [Txn.bytes, hm]

theorem hostAccess_of_busErrorCause (ha : t.addr = s.params.base + off) (hoff : off < 0x20000)
    (h : BusErrorCause s t off) : hostAccess t s = .next (raiseBusError s) := by
  cases hm : admitted t.bytes off s with
  | none => exact hostAccess_of_not_admitted ha hoff hm
  | some l =>
    obtain ⟨-, -, hl, -⟩ := admitted_eq_some.mp hm
    obtain ⟨hwrites, hro⟩ : t.IsWrite ∧ ReadOnlyOffset s.params off := by
      by_contra hro
      exact not_busErrorCause_iff.mpr ⟨⟨l, hm⟩, hro⟩ h
    cases t with
    | read a n => exact hwrites.elim
    | write a n v =>
      have hstore : storePlace l v s = none := (readOnlyOffset_iff hl v s).mp hro
      exact (hostAccess_write_of_admitted v ha hoff hm).trans (writeAt_of_storePlace_none hstore)

theorem exists_hostAccess_next (ha : t.addr = s.params.base + off) (hoff : off < 0x20000)
    (h : ¬BusErrorCause s t off) : ∃ u, hostAccess t s = .next u ∧ u.response ≠ some .busError := by
  obtain ⟨⟨l, hm⟩, hro⟩ := not_busErrorCause_iff.mp h
  obtain ⟨-, -, hl, -⟩ := admitted_eq_some.mp hm
  cases t with
  | read a n => exact ⟨_, hostAccess_read_of_admitted ha hoff hm, nofun⟩
  | write a n v =>
    have hstore : storePlace l v s ≠ none := fun hnone => hro ⟨trivial, (readOnlyOffset_iff hl v s).mpr hnone⟩
    obtain ⟨u, hu, hresp⟩ := exists_writeAt_next hstore
    exact ⟨u, (hostAccess_write_of_admitted v ha hoff hm).trans hu, by rw [hresp]; nofun⟩

end Window

/-- Settles O42: the step is the access at the head of the queue, which errs exactly when it is not admitted or writes a
place that stores nothing. -/
theorem busErrorHasExactlyTheseCauses : Obligations.BusErrorHasExactlyTheseCauses := by
  intro s t off rest hr hi ha hoff
  rw [step_host hr hi]
  exact ⟨hostAccess_of_busErrorCause (s := s.withInputs rest) ha hoff,
    exists_hostAccess_next (s := s.withInputs rest) ha hoff⟩

end Sys2Proof.Machine

/-! The encoder against the decoder (30_encoding.md R113, R114, R117). -/

namespace Sys2Proof

theorem Instr.wellFormed_iff {i : Instr} : i.wellFormed = true ↔ i.shAmount < 64 := by
  cases i <;> simp [Instr.wellFormed, Instr.shAmount, shFits]

theorem Instr.opcode_lt (i : Instr) : i.opcode < 32 := by
  cases i <;> simp [Instr.opcode]

/-- The word of a command is `OP + (sh << 8)`, with nothing lost at 32 bits (30_encoding.md R117). -/
theorem toNat_encode {i : Instr} (h : i.shAmount < 64) : (encode i).toNat = i.opcode + i.shAmount * 256 := by
  have hop := i.opcode_lt
  rw [encode, Nat.shiftLeft_eq, BitVec.toNat_ofNat, Nat.mod_eq_of_lt (by omega)]

theorem decode_encode {i : Instr} (h : i.shAmount < 64) : decode (encode i) = .ok i := by
  have hop := i.opcode_lt
  have hword := toNat_encode h
  rw [decode_eq_ok_iff_fields]
  simp only [opField, rsv0Field, shField, rsv1Field, bitField, Nat.shiftRight_eq_div_pow, hword]
  omega

/-- What decodes has an operand that fits its field: SH is 6 bits wide (30_encoding.md R112). -/
theorem shAmount_lt_of_decode {w : Word} {i : Instr} (h : decode w = .ok i) : i.shAmount < 64 := by
  obtain ⟨-, -, hsh, -⟩ := decode_eq_ok_iff_fields.mp h
  rw [← hsh]
  exact Nat.mod_lt _ (by norm_num)

theorem wellFormed_of_decode {w : Word} {i : Instr} (h : decode w = .ok i) : i.wellFormed = true :=
  Instr.wellFormed_iff.mpr (shAmount_lt_of_decode h)

/-- Settles O1: the fields of the encoding are those the decoder asks for. -/
theorem decodeOfEncodeIsIdentity : Obligations.DecodeOfEncodeIsIdentity :=
  fun _ h => decode_encode (Instr.wellFormed_iff.mp h)

/-- Settles O2: the encoding of what `w` decodes to decodes to the same command, and no two words do. -/
theorem encodeOfDecodeIsIdentity : Obligations.EncodeOfDecodeIsIdentity := fun _ _ h =>
  ⟨(decode_eq_ok_iff_eq h).mp (decode_encode (shAmount_lt_of_decode h)), wellFormed_of_decode h⟩

/-- Settles O4: each sample word has the fields of its command. -/
theorem decodeReadsSampleWords : Obligations.DecodeReadsSampleWords := by
  simp only [Obligations.DecodeReadsSampleWords, decode_eq_ok_iff_fields]
  decide

end Sys2Proof

/-! Acceptance and completion of every command (43_dispatcher.md R230 to R234, 40_q31_datapath.md R150 to R156). A command
completes with three values, the accumulator, RES and the RAM, each a function of what the command may read. -/

namespace Sys2Proof.Machine

/-! Acceptance. -/

theorem exec_of_check_none {i : Instr} {s : State} (h : s.pending = none) (hc : check i s = none) :
    exec i s = .next (acceptedState i s) := by
  rw [exec_of_none h]
  obtain ⟨-, haccept⟩ | ⟨e, hcheck, -⟩ := accept_cases i s
  · rw [haccept]
  · rw [hc] at hcheck
    cases hcheck

/-- A failed check sets ERR and its code alone in STATUS (60_exceptions.md R252). -/
theorem exec_of_check_some {i : Instr} {s : State} {e : CmdError} (h : s.pending = none) (hb : s.status.busy = false)
    (hc : check i s = some e) : exec i s = .next (rejectedState e.code s) := by
  rw [exec_of_none h]
  obtain ⟨hcheck, -⟩ | ⟨e', hcheck, haccept⟩ := accept_cases i s
  · rw [hc] at hcheck
    cases hcheck
  · obtain rfl : e = e' := Option.some.inj (hc.symm.trans hcheck)
    rw [haccept]
    simp only [raiseCmdError, clearOutcome, State.withStatus, rejectedState, hb]

theorem check_badLen {i : Instr} {s : State} (hu : i.UsesLen) (hl : ¬s.params.LegalLength s.len.toNat) :
    check i s = some .badLen := by
  have hsup : supported s.params s.len = false := by rwa [← Bool.not_eq_true, supported_iff]
  simp [check, usesLen_iff.mpr hu, hsup]

theorem check_badTwmod {i : Instr} {s : State} (hr : i.RunsBfly) (hl : s.params.LegalLength s.len.toNat)
    (hm : s.twmod.toNat * s.len.toNat ≠ s.params.nmax) : check i s = some .badTwmod := by
  simp [check, runsBfly_iff.mpr hr, supported_iff.mpr hl, hm]

theorem check_badBrfact {i : Instr} {s : State} (hr : i.RunsBitrev s.ctrl.bitrev)
    (hl : s.params.LegalLength s.len.toNat) (hm : i.RunsBfly → s.twmod.toNat * s.len.toNat = s.params.nmax)
    (hf : s.brfact.toNat * s.len.toNat ≠ s.params.nmax) : check i s = some .badBrfact := by
  rw [← runsBfly_iff] at hm
  simp +contextual [check, runsBitrev_iff.mpr hr, supported_iff.mpr hl, hm, hf]

/-- Settles O9: no check fails, so the command begins. -/
theorem acceptedCommandCapturesDescriptor : Obligations.AcceptedCommandCapturesDescriptor :=
  fun _ _ h hlen htwmod hbrfact => exec_of_check_none h (check_eq_none_iff.mpr ⟨hlen, htwmod, hbrfact⟩)

/-- Settles O10: each clause names the first check that fails. -/
theorem rejectedCommandReportsFirstFailure : Obligations.RejectedCommandReportsFirstFailure := fun _ _ h hb =>
  ⟨fun hu hl => exec_of_check_some h hb (check_badLen hu hl),
    fun hr hl hm => exec_of_check_some h hb (check_badTwmod hr hl hm),
    fun hr hl hm hf => exec_of_check_some h hb (check_badBrfact hr hl hm hf)⟩

/-! Completion. -/

/-- What the completion of a command leaves in ACC. -/
def accAfter (i : Instr) (acc : AccWord) (opa opb : Word) : AccWord :=
  match i with
  | .macClr => 0
  | .macMul => u64 (prod opa opb)
  | .macMla => u64 (s64 acc + prod opa opb)
  | .macMls => u64 (s64 acc - prod opa opb)
  | _ => acc

/-- What the completion of a command leaves in RES. -/
def resAfter (i : Instr) (acc : AccWord) (res : Word) : Word :=
  match i with
  | .macRdw sh => u32 (sra (s64 acc) sh)
  | .macRds sh => u32 (sat32 (sra (s64 acc) sh))
  | _ => res

/-- The direction a record asks XFORM for (43_dispatcher.md R234). -/
def Pending.dir (p : Pending) : Dir := if p.inv then .inv else .fwd

/-- What the completion of a command with record `p` leaves in the RAM. -/
def ramAfter (i : Instr) (ps : Params) (p : Pending) (r : Ram) : Ram :=
  match i with
  | .bflyFwd => runPass ps .fwd p.n.toNat p.m.toNat r
  | .bflyInv => runPass ps .inv p.n.toNat p.m.toNat r
  | .bitrev => runReversal ps p.n.toNat p.f.toNat r
  | .xform =>
    if p.br then runReversal ps p.n.toNat p.f.toNat (runPass ps p.dir p.n.toNat p.m.toNat r)
    else runPass ps p.dir p.n.toNat p.m.toNat r
  | _ => r

/-- Everything the completion of a command does: STATUS and PENDING as for every command, and ACC, RES and the RAM
(70_reset_and_hazards.md R303). -/
theorem exec_of_some {i : Instr} {s : State} {p : Pending} (h : s.pending = some p) :
    exec i s = .next { completedState s with
      acc := accAfter i s.acc s.opa s.opb
      res := resAfter i s.acc s.res
      ram := ramAfter i s.params p s.ram } := by
  cases i with
  | nop => exact exec_nop_of_some h
  | xform =>
    rw [exec_xform_of_some h]
    unfold transformOf ramAfter
    cases p.br <;> rfl
  | bflyFwd => exact exec_bflyFwd_of_some h
  | bflyInv => exact exec_bflyInv_of_some h
  | bitrev => exact exec_bitrev_of_some h
  | macClr => exact exec_macClr_of_some h
  | macMul => exact exec_macMul_of_some h
  | macMla => rw [exec_macMla_of_some h, u64_wrap64]; rfl
  | macMls => rw [exec_macMls_of_some h, u64_wrap64]; rfl
  | macRdw sh => rw [exec_macRdw_of_some h, u32_wrap32]; rfl
  | macRds sh => exact exec_macRds_of_some h sh

theorem runReversal_era (p : Params) (n f : Nat) (r : Ram) : (runReversal p n f r).era = r.era :=
  List.foldlRecOn (motive := fun r' : Ram => r'.era = r.era) _ _ rfl fun r' hr' i _ => by
    rw [← hr', reversalTurn]
    split
    · exact swapSamples_era ..
    · rfl

theorem ramAfter_era (i : Instr) (ps : Params) (p : Pending) (r : Ram) : (ramAfter i ps p r).era = r.era := by
  cases i <;> simp only [ramAfter, runPass_era, runReversal_era]
  split <;> simp only [runPass_era, runReversal_era]

/-- Settles O11: every command has a completion, which keeps the reset period of the RAM. -/
theorem completionNeverFails : Obligations.CompletionNeverFails := fun i _ p h =>
  ⟨_, _, _, ramAfter_era i _ p _, exec_of_some h⟩

/-- Settles O12: NOP is subject to no check and has no effect. -/
theorem nopOnlyCompletes : Obligations.NopOnlyCompletes :=
  ⟨rfl, fun _ h => exec_of_check_none h rfl, fun _ _ h => exec_of_some h⟩

/-! The MAC commands. -/

/-- Settles O13. -/
theorem macClrClearsAccumulator : Obligations.MacClrClearsAccumulator :=
  ⟨rfl, fun _ h => exec_of_check_none h rfl, fun _ _ h => exec_of_some h⟩

/-- Settles O14: ACC holds every product exactly. -/
theorem macMulStoresExactProduct : Obligations.MacMulStoresExactProduct :=
  ⟨rfl, fun _ h => exec_of_check_none h rfl, fun s _ h => ⟨_, s64_u64_prod s.opa s.opb, exec_of_some h⟩⟩

/-- Settles O15: the sum is stored mod 2^64. -/
theorem macMlaAddsProduct : Obligations.MacMlaAddsProduct :=
  ⟨rfl, fun _ h => exec_of_check_none h rfl, fun _ _ h => ⟨_, s64_u64 _, exec_of_some h⟩⟩

/-- Settles O16: the difference is stored mod 2^64. -/
theorem macMlsSubtractsProduct : Obligations.MacMlsSubtractsProduct :=
  ⟨rfl, fun _ h => exec_of_check_none h rfl, fun _ _ h => ⟨_, s64_u64 _, exec_of_some h⟩⟩

/-- Settles O17: the shift is the floor, stored mod 2^32. -/
theorem macRdwReadsWrapped : Obligations.MacRdwReadsWrapped := by
  refine ⟨fun sh hsh => toNat_encode hsh, fun sh s h => exec_of_check_none h rfl, fun sh s p h => ⟨_, ?_, exec_of_some h⟩⟩
  exact (s32_u32 _).trans (by rw [sra_eq_floor]; rfl)

theorem sat32_eq (v : Int) : sat32 v = max (-2 ^ 31) (min (2 ^ 31 - 1) v) := rfl

/-- Settles O18: the shift is the floor, and RES holds its clamped value exactly. -/
theorem macRdsReadsSaturated : Obligations.MacRdsReadsSaturated := by
  refine ⟨fun sh hsh => toNat_encode hsh, fun sh s h => exec_of_check_none h rfl, fun sh s p h => ⟨_, ?_, exec_of_some h⟩⟩
  obtain ⟨hlow, hhigh⟩ := sat32_range (sra (s64 s.acc) sh)
  exact (s32_u32_of_range hlow hhigh).trans (by rw [sat32_eq, sra_eq_floor]; rfl)

/-! What the two groups of commands leave alone (40_q31_datapath.md R156). -/

theorem exec_mac_of_some {i : Instr} {s : State} {p : Pending} (hi : IsMac i) (h : s.pending = some p) :
    exec i s = .next { completedState s with
      acc := accAfter i s.acc s.opa s.opb
      res := resAfter i s.acc s.res } := by
  rw [exec_of_some h]
  obtain rfl | rfl | rfl | rfl | ⟨sh, rfl⟩ | ⟨sh, rfl⟩ := hi <;> rfl

theorem exec_transform_of_some {i : Instr} {s : State} {p : Pending} (hi : i.UsesLen) (h : s.pending = some p) :
    exec i s = .next { completedState s with ram := ramAfter i s.params p s.ram } := by
  rw [exec_of_some h]
  obtain rfl | rfl | rfl | rfl := hi <;> rfl

/-- Settles O20: the completion of a MAC command is a function of OPA, OPB, ACC and RES. -/
theorem macCommandsIgnoreTransformState : Obligations.MacCommandsIgnoreTransformState := fun _ _ p hi h =>
  ⟨_, exec_mac_of_some hi h, rfl, rfl, rfl, rfl, rfl, fun _ _ _ _ _ => exec_mac_of_some (p := p) hi h⟩

/-- Settles O21: the completion of a transform command is a function of the record and the RAM. -/
theorem transformCommandsIgnoreMacState : Obligations.TransformCommandsIgnoreMacState := fun _ _ p hi h =>
  ⟨_, exec_transform_of_some hi h, rfl, rfl, rfl, rfl, fun _ _ _ _ => exec_transform_of_some (p := p) hi h⟩

/-! The transform commands (41_butterfly.md R185, R186, 43_dispatcher.md R234). -/

/-- Settles O23: the two loops of the pass, over stages and over a stage, are one fold. -/
theorem butterflyCommandsRunTheirStages : Obligations.ButterflyCommandsRunTheirStages := by
  rintro s p stages h rfl
  rw [← runPass_eq_foldl, ← runPass_eq_foldl]
  exact ⟨exec_of_some h, exec_of_some h⟩

theorem exec_bfly_of_dir {s : State} {p : Pending} (h : s.pending = some p) :
    exec (if p.inv then .bflyInv else .bflyFwd) s =
      .next { completedState s with ram := runPass s.params p.dir p.n.toNat p.m.toNat s.ram } := by
  unfold Pending.dir
  cases p.inv
  · exact exec_of_some h
  · exact exec_of_some h

/-- Settles O39: XFORM's two passes are those of the commands. -/
theorem xformRunsPassThenReversal : Obligations.XformRunsPassThenReversal := by
  intro s p h
  refine ⟨_, ramAfter .xform s.params p s.ram, exec_bfly_of_dir h, ?_, exec_of_some h⟩
  unfold ramAfter
  cases p.br
  · rfl
  · exact exec_of_some (p := p) h

end Sys2Proof.Machine

/-! One stage of a pass as a set of butterflies (41_butterfly.md R187). Its butterflies touch disjoint samples, so each acts
on the RAM as the stage found it, and any two of them commute. -/

namespace Sys2Proof.Machine

/-! Which samples the butterflies of a stage touch (41_butterfly.md R172 to R174, R176). -/

theorem stageBfly_index (m k r j q slot : Nat) : (stageBfly m k r j q).index slot = 4 ^ r * (4 * q + slot) + j := by
  simp only [Bfly.index, stageBfly]
  ring

/-- An index names its butterfly and its slot: block, slot and place in the quarter are its digits. -/
theorem stageBfly_index_inj {m k r j q slot j' q' slot' : Nat} (hj : j < 4 ^ r) (hj' : j' < 4 ^ r) (hslot : slot < 4)
    (hslot' : slot' < 4) (h : (stageBfly m k r j q).index slot = (stageBfly m k r j' q').index slot') :
    j = j' ∧ q = q' ∧ slot = slot' := by
  rw [stageBfly_index, stageBfly_index] at h
  have hplace : j = j' := by
    have := congrArg (· % 4 ^ r) h
    simpa only [Nat.mul_add_mod, Nat.mod_eq_of_lt hj, Nat.mod_eq_of_lt hj'] using this
  subst hplace
  have hrest : 4 * q + slot = 4 * q' + slot' :=
    Nat.eq_of_mul_eq_mul_left (Nat.pow_pos (by norm_num)) (Nat.add_right_cancel h)
  omega

theorem exists_stageBfly_index_eq (m : Nat) {k r i : Nat} (hi : i < 4 ^ (k + 1 + r)) :
    ∃ j < 4 ^ r, ∃ q < 4 ^ k, ∃ slot < 4, (stageBfly m k r j q).index slot = i := by
  have hquarter : i / 4 ^ r < 4 ^ k * 4 := by
    rw [← pow_succ]
    exact Nat.div_lt_of_lt_mul (by rwa [← pow_add, add_comm])
  refine ⟨i % 4 ^ r, Nat.mod_lt _ (Nat.pow_pos (by norm_num)), i / 4 ^ r / 4, by omega, i / 4 ^ r % 4, by omega, ?_⟩
  rw [stageBfly_index, Nat.div_add_mod, Nat.div_add_mod]

theorem exists_stageOf_eq {p : Params} {n m : Nat} {stage : List Bfly} (hn : p.LegalLength n)
    (hstage : stage ∈ passStages n m) : ∃ k r, n = 4 ^ (k + 1 + r) ∧ stage = stageOf m k r := by
  obtain ⟨e, h₁, h₂, rfl⟩ := hn
  obtain ⟨k, hk⟩ := List.mem_iff_getElem?.mp hstage
  obtain ⟨r, rfl, rfl⟩ := (passStages_getElem?_eq_some h₁ h₂).mp hk
  exact ⟨k, r, rfl, rfl⟩

/-- Settles O26: the digits of an index give the one butterfly and slot that hold it. -/
theorem stageTouchesEachSampleOnce : Obligations.StageTouchesEachSampleOnce := by
  intro p n m stage hn hstage
  refine ⟨fun b hb slot => index_lt_of_mem_passStages hn hstage hb, fun i hi => ?_⟩
  obtain ⟨k, r, rfl, rfl⟩ := exists_stageOf_eq hn hstage
  obtain ⟨j, hj, q, hq, slot, hslot, hindex⟩ := exists_stageBfly_index_eq m hi
  refine ⟨(stageBfly m k r j q, slot), ⟨mem_stageOf.mpr ⟨j, hj, q, hq, rfl⟩, hslot, hindex⟩, ?_⟩
  rintro ⟨b, slot'⟩ ⟨hb, hslot', hindex'⟩
  obtain ⟨j', hj', q', -, rfl⟩ := mem_stageOf.mp hb
  obtain ⟨rfl, rfl, rfl⟩ := stageBfly_index_inj hj' hj hslot' hslot (hindex'.trans hindex.symm)
  rfl

/-- Two butterflies touch no sample in common. -/
def Bfly.Disjoint (b b' : Bfly) : Prop := ∀ slot < 4, ∀ slot' < 4, b.index slot ≠ b'.index slot'

theorem Bfly.Disjoint.symm {b b' : Bfly} (h : b.Disjoint b') : b'.Disjoint b :=
  fun slot hslot slot' hslot' => (h slot' hslot' slot hslot).symm

theorem disjoint_of_mem_stageOf {m k r : Nat} {b b' : Bfly} (hb : b ∈ stageOf m k r) (hb' : b' ∈ stageOf m k r)
    (hne : b ≠ b') : b.Disjoint b' := by
  obtain ⟨j, hj, q, -, rfl⟩ := mem_stageOf.mp hb
  obtain ⟨j', hj', q', -, rfl⟩ := mem_stageOf.mp hb'
  intro slot hslot slot' hslot' hindex
  obtain ⟨rfl, rfl, -⟩ := stageBfly_index_inj hj hj' hslot hslot' hindex
  exact hne rfl

theorem stageBfly_injective (m k r j : Nat) : Function.Injective (stageBfly m k r j) := by
  intro q q' h
  have hi0 : j + 4 ^ (r + 1) * q = j + 4 ^ (r + 1) * q' := congrArg Bfly.i0 h
  exact Nat.eq_of_mul_eq_mul_left (Nat.pow_pos (by norm_num)) (Nat.add_left_cancel hi0)

theorem nodup_stageOf (m k r : Nat) : (stageOf m k r).Nodup := by
  refine List.nodup_flatMap.mpr ⟨fun j _ => List.nodup_range.map (stageBfly_injective m k r j), ?_⟩
  refine List.nodup_range.pairwise_of_forall_ne fun j _ j' _ hne b hb hb' => hne ?_
  obtain ⟨q, -, rfl⟩ := List.mem_map.mp hb
  obtain ⟨q', -, h⟩ := List.mem_map.mp hb'
  exact (congrArg Bfly.k h).symm

theorem pairwise_disjoint_stageOf (m k r : Nat) : (stageOf m k r).Pairwise Bfly.Disjoint :=
  (nodup_stageOf m k r).pairwise_of_forall_ne fun _ hb _ hb' => disjoint_of_mem_stageOf hb hb'

theorem stageOf_n2_pos {m k r : Nat} {b : Bfly} (hb : b ∈ stageOf m k r) : 0 < b.n2 := by
  obtain ⟨j, -, q, -, rfl⟩ := mem_stageOf.mp hb
  exact Nat.pow_pos (by norm_num)

/-! Samples a butterfly does not touch. -/

section Samples

variable (p : Params) (d : Dir)

theorem sample_runBfly_of_ne (r : Ram) {b : Bfly} {i : Nat} (h : ∀ slot < 4, b.index slot ≠ i) :
    (runBfly p d r b).sample i = r.sample i := by
  simp only [runBfly, writeQuad, Ram.sample_setSample]
  rw [if_neg (h 3 (by norm_num)).symm, if_neg (h 2 (by norm_num)).symm, if_neg (h 1 (by norm_num)).symm,
    if_neg (h 0 (by norm_num)).symm]

theorem readQuad_runBfly_of_disjoint (r : Ram) {b b' : Bfly} (h : b.Disjoint b') :
    readQuad (runBfly p d r b) b' = readQuad r b' := by
  have hsample : ∀ slot < 4, (runBfly p d r b).sample (b'.index slot) = r.sample (b'.index slot) := fun slot hslot =>
    sample_runBfly_of_ne p d r fun slot' hslot' => h slot' hslot' slot hslot
  simp only [readQuad, hsample 0 (by norm_num), hsample 1 (by norm_num), hsample 2 (by norm_num),
    hsample 3 (by norm_num)]

theorem sample_runStage_of_ne (r : Ram) {stage : List Bfly} {i : Nat} (h : ∀ b ∈ stage, ∀ slot < 4, b.index slot ≠ i) :
    (runStage p d r stage).sample i = r.sample i :=
  List.foldlRecOn (motive := fun r' : Ram => r'.sample i = r.sample i) _ _ rfl fun r' hr' b hb =>
    (sample_runBfly_of_ne p d r' (h b hb)).trans hr'

theorem readQuad_runStage_of_disjoint (r : Ram) {stage : List Bfly} {b : Bfly} (h : ∀ b' ∈ stage, b'.Disjoint b) :
    readQuad (runStage p d r stage) b = readQuad r b :=
  List.foldlRecOn (motive := fun r' : Ram => readQuad r' b = readQuad r b) _ _ rfl fun r' hr' b' hb' =>
    (readQuad_runBfly_of_disjoint p d r' (h b' hb')).trans hr'

theorem runStage_cons (r : Ram) (b : Bfly) (stage : List Bfly) :
    runStage p d r (b :: stage) = runStage p d (runBfly p d r b) stage := by
  simp only [runStage, List.foldl_cons]

/-- Butterflies run one after another, each on samples of its own, do what each does to the RAM at the start. -/
theorem readQuad_runStage_of_mem {stage : List Bfly} (hdisj : stage.Pairwise Bfly.Disjoint) (hn2 : ∀ b ∈ stage, 0 < b.n2)
    (r : Ram) : ∀ b ∈ stage, readQuad (runStage p d r stage) b = bflyOut p d b (readQuad r b) := by
  induction stage generalizing r with
  | nil => exact fun b hb => absurd hb List.not_mem_nil
  | cons b₀ stage ih =>
    obtain ⟨hhead, htail⟩ := List.pairwise_cons.mp hdisj
    obtain ⟨hpos, hn2⟩ := List.forall_mem_cons.mp hn2
    rw [runStage_cons]
    refine List.forall_mem_cons.mpr ⟨?_, fun b hb => ?_⟩
    · rw [readQuad_runStage_of_disjoint p d _ fun b hb => (hhead b hb).symm, readQuad_runBfly hpos]
    · rw [ih htail hn2 _ b hb, readQuad_runBfly_of_disjoint p d r (hhead b hb)]

end Samples

/-- Settles O27: by induction along the stage, whose butterflies are disjoint. -/
theorem stageActsInParallel : Obligations.StageActsInParallel := by
  intro p d n m r stage hn hstage
  have hout : ∀ i, n ≤ i → (runStage p d r stage).sample i = r.sample i := fun i hi =>
    sample_runStage_of_ne p d r fun b hb slot hslot =>
      ((index_lt_of_mem_passStages hn hstage hb hslot).trans_le hi).ne
  obtain ⟨k, t, -, rfl⟩ := exists_stageOf_eq hn hstage
  exact ⟨readQuad_runStage_of_mem p d (pairwise_disjoint_stageOf m k t) (fun _ => stageOf_n2_pos) r, hout⟩

/-! The bytes a write lists. Canonical memories that list the same bytes are equal, so these decide whether two orders of
writing leave the same RAM. -/

/-- Byte `a` of the window belongs to sample `i` (00_scope.md R15, 20_memory.md R78). -/
def InSample (i a : Nat) : Prop := ramStart + 8 * i ≤ a ∧ a < ramStart + 8 * i + 8

theorem InSample.unique {i j a : Nat} (hi : InSample i a) (hj : InSample j a) : i = j := by
  unfold InSample at hi hj
  omega

theorem Ram.eq_of_lookup {r r' : Ram} (hera : r.era = r'.era) (h : Memory.wf r.cells) (h' : Memory.wf r'.cells)
    (hl : ∀ a, Memory.lookup r.cells a = Memory.lookup r'.cells a) : r = r' := by
  obtain ⟨era, cells⟩ := r
  obtain ⟨era', cells'⟩ := r'
  obtain rfl : era = era' := hera
  obtain rfl : cells = cells' := Memory.eq_of_lookup h h' hl
  rfl

theorem Ram.lookup_writeWord (r : Ram) (w a : Nat) (v : Word) :
    Memory.lookup (r.writeWord w v).cells a =
      if ramOffset w ≤ a ∧ a < ramOffset w + 4 then some (byteOf v (a - ramOffset w)) else Memory.lookup r.cells a := by
  simp only [Ram.writeWord, Ram.writeByte_cells, Memory.lookup_insert]
  by_cases h : ramOffset w ≤ a ∧ a < ramOffset w + 4
  · obtain ⟨k, rfl⟩ := Nat.exists_eq_add_of_le h.1
    have hk : k < 4 := by omega
    interval_cases k <;> simp
  · rw [if_neg h, if_neg (by omega), if_neg (by omega), if_neg (by omega), if_neg (by omega)]

theorem Ram.lookup_setSample_of_outside {r : Ram} {i a : Nat} {x : Cplx} (h : ¬InSample i a) :
    Memory.lookup (r.setSample i x).cells a = Memory.lookup r.cells a := by
  have hre : ¬(ramOffset (2 * i) ≤ a ∧ a < ramOffset (2 * i) + 4) := by unfold InSample at h; unfold ramOffset; omega
  have him : ¬(ramOffset (2 * i + 1) ≤ a ∧ a < ramOffset (2 * i + 1) + 4) := by
    unfold InSample at h; unfold ramOffset; omega
  rw [Ram.setSample, Ram.lookup_writeWord, if_neg him, Ram.lookup_writeWord, if_neg hre]

theorem Ram.lookup_setSample_congr {r r' : Ram} {i a : Nat} {x : Cplx}
    (h : InSample i a ∨ Memory.lookup r.cells a = Memory.lookup r'.cells a) :
    Memory.lookup (r.setSample i x).cells a = Memory.lookup (r'.setSample i x).cells a := by
  by_cases hin : InSample i a
  · have hpart : (ramOffset (2 * i) ≤ a ∧ a < ramOffset (2 * i) + 4) ∨
        (ramOffset (2 * i + 1) ≤ a ∧ a < ramOffset (2 * i + 1) + 4) := by
      unfold InSample at hin; unfold ramOffset; omega
    rw [Ram.setSample, Ram.setSample, Ram.lookup_writeWord, Ram.lookup_writeWord, Ram.lookup_writeWord,
      Ram.lookup_writeWord]
    rcases hpart with hre | him
    · rw [if_pos hre, if_pos hre]
    · rw [if_pos him, if_pos him]
  · rw [Ram.lookup_setSample_of_outside hin, Ram.lookup_setSample_of_outside hin]
    exact h.resolve_left hin

/-- Byte `a` belongs to one of the butterfly's samples. -/
def Bfly.Holds (b : Bfly) (a : Nat) : Prop := ∃ slot < 4, InSample (b.index slot) a

theorem Bfly.Disjoint.not_holds {b b' : Bfly} (h : b.Disjoint b') {a : Nat} (ha : b.Holds a) : ¬b'.Holds a := by
  obtain ⟨slot, hslot, hin⟩ := ha
  rintro ⟨slot', hslot', hin'⟩
  exact h slot hslot slot' hslot' (hin.unique hin')

theorem lookup_writeQuad_of_not_holds {r : Ram} {b : Bfly} {q : Quad} {a : Nat} (h : ¬b.Holds a) :
    Memory.lookup (writeQuad r b q).cells a = Memory.lookup r.cells a := by
  have hout : ∀ slot < 4, ¬InSample (b.index slot) a := fun slot hslot hin => h ⟨slot, hslot, hin⟩
  unfold writeQuad
  rw [Ram.lookup_setSample_of_outside (hout 3 (by norm_num)), Ram.lookup_setSample_of_outside (hout 2 (by norm_num)),
    Ram.lookup_setSample_of_outside (hout 1 (by norm_num)), Ram.lookup_setSample_of_outside (hout 0 (by norm_num))]

theorem lookup_writeQuad_congr {r r' : Ram} {b : Bfly} {q : Quad} {a : Nat}
    (h : b.Holds a ∨ Memory.lookup r.cells a = Memory.lookup r'.cells a) :
    Memory.lookup (writeQuad r b q).cells a = Memory.lookup (writeQuad r' b q).cells a := by
  unfold writeQuad
  obtain ⟨slot, hslot, hin⟩ | heq := h
  · interval_cases slot
    · exact Ram.lookup_setSample_congr (.inr (Ram.lookup_setSample_congr (.inr (Ram.lookup_setSample_congr (.inr
        (Ram.lookup_setSample_congr (.inl hin)))))))
    · exact Ram.lookup_setSample_congr (.inr (Ram.lookup_setSample_congr (.inr (Ram.lookup_setSample_congr (.inl hin)))))
    · exact Ram.lookup_setSample_congr (.inr (Ram.lookup_setSample_congr (.inl hin)))
    · exact Ram.lookup_setSample_congr (.inl hin)
  · exact Ram.lookup_setSample_congr (.inr (Ram.lookup_setSample_congr (.inr (Ram.lookup_setSample_congr (.inr
      (Ram.lookup_setSample_congr (.inr heq)))))))

theorem writeQuad_comm {r : Ram} (hr : Memory.wf r.cells) {b b' : Bfly} (h : b.Disjoint b') (q q' : Quad) :
    writeQuad (writeQuad r b q) b' q' = writeQuad (writeQuad r b' q') b q := by
  refine Ram.eq_of_lookup (by simp) (writeQuad_wf (writeQuad_wf hr b q) b' q') (writeQuad_wf (writeQuad_wf hr b' q') b q)
    fun a => ?_
  by_cases hb : b.Holds a
  · rw [lookup_writeQuad_of_not_holds (h.not_holds hb)]
    exact lookup_writeQuad_congr (.inl hb)
  · rw [lookup_writeQuad_of_not_holds hb]
    exact lookup_writeQuad_congr (.inr (lookup_writeQuad_of_not_holds hb))

/-- Disjoint butterflies commute. -/
theorem runBfly_comm (p : Params) (d : Dir) {r : Ram} (hr : Memory.wf r.cells) {b b' : Bfly} (h : b.Disjoint b') :
    runBfly p d (runBfly p d r b) b' = runBfly p d (runBfly p d r b') b := by
  rw [runBfly, readQuad_runBfly_of_disjoint p d r h, runBfly, writeQuad_comm hr h, ← runBfly]
  conv_rhs => rw [runBfly, readQuad_runBfly_of_disjoint p d r h.symm]

/-- A fold whose steps commute, as long as an invariant of the steps holds, does not depend on the order. -/
theorem foldl_eq_of_perm {α β : Type} {f : β → α → β} {good : β → Prop} (hkeep : ∀ y x, good y → good (f y x))
    {l l' : List α} (h : l.Perm l') (hcomm : ∀ x ∈ l, ∀ x' ∈ l, ∀ y, good y → f (f y x) x' = f (f y x') x) :
    ∀ y, good y → l.foldl f y = l'.foldl f y := by
  induction h with
  | nil => exact fun _ _ => rfl
  | cons x _ ih =>
    exact fun y hy => ih (fun a ha b hb => hcomm a (.tail _ ha) b (.tail _ hb)) (f y x) (hkeep y x hy)
  | swap x x' l =>
    intro y hy
    rw [List.foldl_cons, List.foldl_cons, List.foldl_cons, List.foldl_cons, hcomm x' (by simp) x (by simp) y hy]
  | trans hperm _ ih ih' =>
    intro y hy
    rw [ih hcomm y hy]
    exact ih' (fun a ha b hb => hcomm a (hperm.mem_iff.mpr ha) b (hperm.mem_iff.mpr hb)) y hy

/-- Settles O28: two butterflies of a stage are one, or disjoint and so commute. -/
theorem stageOrderDoesNotMatter : Obligations.StageOrderDoesNotMatter := by
  intro p d n m r stage stage' hn hstage hperm hr
  obtain ⟨k, t, -, rfl⟩ := exists_stageOf_eq hn hstage
  refine (foldl_eq_of_perm (good := fun r : Ram => Memory.wf r.cells) (fun y b hy => writeQuad_wf hy b _) hperm.symm
    (fun b hb b' hb' y hy => ?_) r hr).symm
  by_cases hne : b = b'
  · rw [hne]
  · exact runBfly_comm p d hy (disjoint_of_mem_stageOf hb hb' hne)

end Sys2Proof.Machine

/-! What one butterfly writes (41_butterfly.md R177 to R184, R191): the four combinations, exact as long as the parts that
enter are small, and the twiddled outputs as floors of exact integers. -/

namespace Sys2Proof.Machine

/-! The narrowing primitives. -/

theorem u32_add (v w : Int) : u32 (v + w) = u32 v + u32 w := BitVec.ofInt_add v w

theorem u32_sub (v w : Int) : u32 (v - w) = u32 v - u32 w := by
  rw [← sub32_eq, sub32, u32_wrap32, s32_u32, s32_u32]
  apply BitVec.eq_of_toInt_eq
  simp [u32, BitVec.toInt_ofInt]

theorem u32_toInt (w : Word) : u32 w.toInt = w := u32_s32 w

/-- A word that is congruent to a value of the signed 32-bit range reads as that value. -/
theorem toInt_eq_of_eq_u32 {w : Word} {v : Int} (hw : w = u32 v) (h₁ : -2 ^ 31 ≤ v) (h₂ : v < 2 ^ 31) : w.toInt = v := by
  rw [hw]
  exact s32_u32_of_range h₁ h₂

/-- The shift of a word is exact (40_q31_datapath.md R141). -/
theorem toInt_sra32 (a : Word) (n : Nat) : (sra32 a n).toInt = sra a.toInt n := by
  obtain ⟨hlow, hhigh⟩ := s32_range a
  have hpos : (1 : Int) ≤ 2 ^ n := one_le_pow₀ (by norm_num)
  have h₁ : -2 ^ 31 ≤ sra (s32 a) n := by
    rw [sra_eq_div]
    exact Int.le_ediv_of_mul_le (by omega) (by nlinarith)
  have h₂ : sra (s32 a) n < 2 ^ 31 := by
    rw [sra_eq_div]
    exact Int.ediv_lt_of_lt_mul (by omega) (by nlinarith)
  exact s32_u32_of_range h₁ h₂

/-- The product with a twiddle, divided and rounded down (40_q31_datapath.md R143, R144). -/
theorem twiddled_fwd (x w : Cplx) (sh : Nat) : twiddled .fwd x w sh =
    ⟨BitVec.ofInt 32 ⌊((x.re.toInt * w.re.toInt - x.im.toInt * w.im.toInt : Int) : ℚ) / 2 ^ sh⌋,
      BitVec.ofInt 32 ⌊((x.re.toInt * w.im.toInt + x.im.toInt * w.re.toInt : Int) : ℚ) / 2 ^ sh⌋⟩ := by
  simp only [twiddled, reduce, u32_wrap32, sra_eq_floor]
  rfl

/-- The product with the conjugate of a twiddle. -/
theorem twiddled_inv (x w : Cplx) (sh : Nat) : twiddled .inv x w sh =
    ⟨BitVec.ofInt 32 ⌊((x.re.toInt * w.re.toInt + x.im.toInt * w.im.toInt : Int) : ℚ) / 2 ^ sh⌋,
      BitVec.ofInt 32 ⌊((x.im.toInt * w.re.toInt - x.re.toInt * w.im.toInt : Int) : ℚ) / 2 ^ sh⌋⟩ := by
  simp only [twiddled, reduce, u32_wrap32, sra_eq_floor]
  rfl

/-! The LAST butterfly. -/

theorem combine_fwd_eq (q : Quad) :
    combine .fwd q =
      ⟨⟨q.x0.re + q.x1.re + q.x2.re + q.x3.re, q.x0.im + q.x1.im + q.x2.im + q.x3.im⟩,
        ⟨q.x0.re - q.x1.re + q.x2.re - q.x3.re, q.x0.im - q.x1.im + q.x2.im - q.x3.im⟩,
        ⟨q.x0.re + q.x1.im - q.x2.re - q.x3.im, q.x0.im - q.x1.re - q.x2.im + q.x3.re⟩,
        ⟨q.x0.re - q.x1.im - q.x2.re + q.x3.im, q.x0.im + q.x1.re - q.x2.im - q.x3.re⟩⟩ :=
  combine_fwd q.x0 q.x1 q.x2 q.x3

/-- Settles O31: a LAST butterfly writes the four combinations, the cross terms in the order of the direction. -/
theorem lastButterflyFormula : Obligations.LastButterflyFormula := by
  rintro p b q hb down up rfl rfl
  refine ⟨fun d => ?_, ?_, ?_, ?_, ?_⟩
  · cases d <;> simp only [bflyOut_last p _ q hb, combine_inv, combine_fwd_eq, and_self]
  · rw [bflyOut_last p _ q hb, combine_fwd_eq]
  · rw [bflyOut_last p _ q hb, combine_fwd_eq]
  · rw [bflyOut_last p _ q hb, combine_inv, combine_fwd_eq]
  · rw [bflyOut_last p _ q hb, combine_inv, combine_fwd_eq]

/-- Every part of the four values is below 2^29 in size. -/
def Quad.Small (q : Quad) : Prop := ∀ x ∈ [q.x0, q.x1, q.x2, q.x3], |x.re.toInt| < 2 ^ 29 ∧ |x.im.toInt| < 2 ^ 29

/-- With small parts no combination wraps (41_butterfly.md R191). -/
theorem toInt_combine_of_small {q : Quad} (h : q.Small) :
    ((combine .fwd q).x0.re.toInt = q.x0.re.toInt + q.x1.re.toInt + q.x2.re.toInt + q.x3.re.toInt ∧
      (combine .fwd q).x0.im.toInt = q.x0.im.toInt + q.x1.im.toInt + q.x2.im.toInt + q.x3.im.toInt) ∧
    ((combine .fwd q).x1.re.toInt = q.x0.re.toInt - q.x1.re.toInt + q.x2.re.toInt - q.x3.re.toInt ∧
      (combine .fwd q).x1.im.toInt = q.x0.im.toInt - q.x1.im.toInt + q.x2.im.toInt - q.x3.im.toInt) ∧
    ((combine .fwd q).x2.re.toInt = q.x0.re.toInt + q.x1.im.toInt - q.x2.re.toInt - q.x3.im.toInt ∧
      (combine .fwd q).x2.im.toInt = q.x0.im.toInt - q.x1.re.toInt - q.x2.im.toInt + q.x3.re.toInt) ∧
    ((combine .fwd q).x3.re.toInt = q.x0.re.toInt - q.x1.im.toInt - q.x2.re.toInt + q.x3.im.toInt ∧
      (combine .fwd q).x3.im.toInt = q.x0.im.toInt + q.x1.re.toInt - q.x2.im.toInt - q.x3.re.toInt) := by
  simp only [Quad.Small, List.forall_mem_cons, abs_lt] at h
  obtain ⟨⟨hre₀, him₀⟩, ⟨hre₁, him₁⟩, ⟨hre₂, him₂⟩, ⟨hre₃, him₃⟩, -⟩ := h
  rw [combine_fwd_eq]
  refine ⟨⟨?_, ?_⟩, ⟨?_, ?_⟩, ⟨?_, ?_⟩, ?_, ?_⟩ <;>
    exact toInt_eq_of_eq_u32 (by simp only [u32_add, u32_sub, u32_toInt]) (by omega) (by omega)

/-- Settles O33: the outputs are the four combinations, whose parts are small. -/
theorem unscaledButterflyExactBelowBound : Obligations.UnscaledButterflyExactBelowBound := by
  rintro p d b q hb hsmall o rfl y z hyz
  obtain ⟨⟨h₁, h₂⟩, ⟨h₃, h₄⟩, ⟨h₅, h₆⟩, h₇, h₈⟩ := toInt_combine_of_small hsmall
  rw [bflyOut_last p d q hb] at hyz ⊢
  cases d <;> cases hyz
  · exact ⟨h₁, h₂, h₃, h₄, h₅, h₆, h₇, h₈⟩
  · rw [combine_inv]
    exact ⟨h₁, h₂, h₃, h₄, h₅, h₆, h₇, h₈⟩

/-! The FIRST butterfly. -/

theorem floor_div_sixteen (w : Word) : ⌊(w.toInt : ℚ) / 16⌋ = (sra32 w 4).toInt := by
  rw [toInt_sra32, sra_eq_floor]
  norm_num

theorem abs_toInt_sra32_four_lt (w : Word) : |(sra32 w 4).toInt| < 2 ^ 29 := by
  obtain ⟨hlow, hhigh⟩ := s32_range w
  rw [toInt_sra32, sra_eq_div, abs_lt]
  unfold s32 at hlow hhigh
  omega

/-- The pre-shift leaves room for the combinations (41_butterfly.md R177). -/
theorem small_preShift_first (q : Quad) : (preShift .first q).Small := by
  have hsmall : ∀ x : Cplx, |(csra x 4).re.toInt| < 2 ^ 29 ∧ |(csra x 4).im.toInt| < 2 ^ 29 := fun x =>
    ⟨abs_toInt_sra32_four_lt x.re, abs_toInt_sra32_four_lt x.im⟩
  simp only [Quad.Small, preShift, List.forall_mem_cons, hsmall, and_true, true_and]
  exact List.forall_mem_nil _

theorem bflyOut_first (p : Params) (d : Dir) {b : Bfly} (q : Quad) (hb : b.kind = .first) :
    bflyOut p d b q =
      ⟨(combine d (preShift .first q)).x0, twiddled d (combine d (preShift .first q)).x1 (twEntry p (2 * b.k * b.ms)) 31,
        twiddled d (combine d (preShift .first q)).x2 (twEntry p (b.k * b.ms)) 31,
        twiddled d (combine d (preShift .first q)).x3 (twEntry p (3 * b.k * b.ms)) 31⟩ := by
  simp only [bflyOut, hb]

/-- Settles O29: the shifted inputs are small, so the combinations are exact, and the twiddled outputs are floors. -/
theorem firstButterflyFormula : Obligations.FirstButterflyFormula := by
  intro p b q hb
  simp only [floor_div_sixteen]
  rintro _ _ _ _ _ _ _ _ rfl rfl rfl rfl rfl rfl rfl rfl
  obtain ⟨⟨hare, haim⟩, ⟨hpre, hpim⟩, ⟨hqre, hqim⟩, hvre, hvim⟩ := toInt_combine_of_small (small_preShift_first q)
  simp only [bflyOut_first p _ q hb]
  refine ⟨fun d => ?_, ?_, ?_⟩
  · cases d <;> exact ⟨hare, haim⟩
  · rintro pr pi c s hpr hpi rfl rfl
    simp only [combine_inv, twiddled_fwd, twiddled_inv, hpre.trans hpr.symm, hpim.trans hpi.symm, and_self]
  · rintro qr qi vr vi c s c₃ s₃ hqr hqi hvr hvi rfl rfl rfl rfl
    simp only [combine_inv, twiddled_fwd, twiddled_inv, hqre.trans hqr.symm, hqim.trans hqi.symm, hvre.trans hvr.symm,
      hvim.trans hvi.symm, and_self]

/-! The MIDDLE butterfly. -/

theorem bflyOut_middle (p : Params) (d : Dir) {b : Bfly} (q : Quad) (hb : b.kind = .middle) :
    bflyOut p d b q =
      ⟨csra (combine d q).x0 2, twiddled d (combine d q).x1 (twEntry p (2 * b.k * b.ms)) 33,
        twiddled d (combine d q).x2 (twEntry p (b.k * b.ms)) 33,
        twiddled d (combine d q).x3 (twEntry p (3 * b.k * b.ms)) 33⟩ := by
  simp only [bflyOut, hb, preShift]

theorem toInt_sra32_two (w : Word) : (sra32 w 2).toInt = ⌊(w.toInt : ℚ) / 4⌋ := by
  rw [toInt_sra32, sra_eq_floor]
  norm_num

/-- Settles O30: the combinations of the words, wrapped, then the shift of the sum and the floors of the products. -/
theorem middleButterflyFormula : Obligations.MiddleButterflyFormula := by
  rintro p b q hb _ _ _ _ _ _ rfl rfl rfl rfl rfl rfl
  simp only [bflyOut_middle p _ q hb]
  refine ⟨fun d => ?_, ?_⟩
  · cases d <;> simp only [combine_inv, combine_fwd_eq, csra, toInt_sra32_two, and_self]
  · rintro _ _ _ _ _ _ rfl rfl rfl rfl rfl rfl
    simp only [combine_inv, combine_fwd_eq, twiddled_fwd, twiddled_inv, and_self]

end Sys2Proof.Machine

/-! The bit-reversal pass (42_bitreversal.md R210 to R213) and the transform of length 4 (43_dispatcher.md R235, R236). The
walk applies an involution of the indices below N, one pair of samples at a time. -/

namespace Sys2Proof.Machine

/-! The permutation. -/

/-- Trailing zeros of the argument drop off the reversed form. -/
theorem bitrev_mul_two_pow (a b i : Nat) : bitrev (a + b) (i * 2 ^ a) = bitrev b i := by
  induction a with
  | zero => simp
  | succ a ih =>
    have hdouble : i * 2 ^ (a + 1) = 2 * (i * 2 ^ a) := by ring
    rw [show a + 1 + b = a + b + 1 by omega, bitrev, hdouble, Nat.mul_mod_right, Nat.mul_div_cancel_left _ (by norm_num),
      ih, zero_mul, zero_add]

/-- Reading backwards twice is reading forwards (42_bitreversal.md R212). -/
theorem bitrev_bitrev {b i : Nat} (hi : i < 2 ^ b) : bitrev b (bitrev b i) = i := by
  refine Nat.eq_of_testBit_eq fun k => ?_
  by_cases hk : k < b
  · rw [testBit_bitrev _ hk, testBit_bitrev _ (by omega)]
    congr 1
    omega
  · have hpow : 2 ^ b ≤ 2 ^ k := Nat.pow_le_pow_right (by norm_num) (not_lt.mp hk)
    rw [Nat.testBit_lt_two_pow ((bitrev_lt b _).trans_le hpow), Nat.testBit_lt_two_pow (hi.trans_le hpow)]

theorem four_pow_eq (e : Nat) : 4 ^ e = 2 ^ (2 * e) := by
  rw [pow_mul]
  norm_num

/-- With F = NMAX / N the ROM of the largest size holds the reversal of every legal one (42_bitreversal.md R214). -/
theorem brEntry_mul_eq {p : Params} {e f : Nat} (he : e ≤ p.log4Nmax) (hf : f * 4 ^ e = p.nmax) (i : Nat) :
    brEntry p (i * f) = bitrev (2 * e) i := by
  obtain ⟨c, hc⟩ := Nat.exists_eq_add_of_le he
  have hfactor : f = 2 ^ (2 * c) := by
    refine Nat.eq_of_mul_eq_mul_right (Nat.pow_pos (n := e) (by norm_num : 0 < 4)) ?_
    rw [hf, Params.nmax, hc, ← four_pow_eq, pow_add, mul_comm]
  rw [brEntry, hfactor, show 2 * p.log4Nmax = 2 * c + 2 * e by omega, bitrev_mul_two_pow]

theorem brEntry_mul_lt {p : Params} {n f : Nat} (hn : p.LegalLength n) (hf : f * n = p.nmax) (i : Nat) :
    brEntry p (i * f) < n := by
  obtain ⟨e, -, he, rfl⟩ := hn
  rw [brEntry_mul_eq he hf, four_pow_eq]
  exact bitrev_lt _ _

/-! The walk. -/

theorem sample_swapSamples (r : Ram) (i j m : Nat) : (swapSamples r i j).sample m =
    if m = j then r.sample i else if m = i then r.sample j else r.sample m := by
  simp only [swapSamples, Ram.sample_setSample]

theorem runReversal_succ (p : Params) (k f : Nat) (r : Ram) :
    runReversal p (k + 1) f r = reversalTurn p f (runReversal p k f r) k := by
  simp only [runReversal, List.range_succ, List.foldl_append, List.foldl_cons, List.foldl_nil]

/-- After `k` turns of the walk with an involution the pairs with an index below `k` are exchanged, and no other. -/
theorem sample_runReversal_of_le {p : Params} {n f k : Nat} {σ : Nat → Nat} (hσ : ∀ i, brEntry p (i * f) = σ i)
    (hmap : ∀ i < n, σ i < n) (hinv : ∀ i < n, σ (σ i) = i) (hk : k ≤ n) (r : Ram) {m : Nat} (hm : m < n) :
    (runReversal p k f r).sample m = if m < k ∨ σ m < k then r.sample (σ m) else r.sample m := by
  induction k generalizing m with
  | zero => simp [runReversal]
  | succ k ih =>
    have hpair : σ (σ k) = k := hinv k hk
    have hback : σ m = k → m = σ k := fun h => by rw [← h, hinv m hm]
    rw [runReversal_succ, reversalTurn, hσ]
    split
    · next hswap =>
      rw [sample_swapSamples]
      rcases eq_or_ne m (σ k) with rfl | hne
      · rw [if_pos rfl, ih (by omega) hk, if_neg (by omega), hpair, if_pos (by omega)]
      rcases eq_or_ne m k with rfl | hne'
      · rw [if_neg hne, if_pos rfl, ih (by omega) (hmap m hm), hpair, if_neg (by omega), if_pos (by omega)]
      · rw [if_neg hne, if_neg hne', ih (by omega) hm]
        exact if_congr (by omega) rfl rfl
    · next hstay =>
      rw [ih (by omega) hm]
      rcases eq_or_ne m k with rfl | hne'
      · rw [if_pos (show m < m + 1 ∨ σ m < m + 1 by omega)]
        split
        · rfl
        · rw [show σ m = m by omega]
      · exact if_congr (by omega) rfl rfl

/-- The closed form of the walk (42_bitreversal.md R210). -/
theorem sample_runReversal {p : Params} {e f : Nat} (he : e ≤ p.log4Nmax) (hf : f * 4 ^ e = p.nmax) (r : Ram) {i : Nat}
    (hi : i < 4 ^ e) : (runReversal p (4 ^ e) f r).sample i = r.sample (bitrev (2 * e) i) := by
  have hmap : ∀ i < 4 ^ e, bitrev (2 * e) i < 4 ^ e := fun i _ => four_pow_eq e ▸ bitrev_lt _ i
  have hinv : ∀ i < 4 ^ e, bitrev (2 * e) (bitrev (2 * e) i) = i := fun i hi => bitrev_bitrev (four_pow_eq e ▸ hi)
  rw [sample_runReversal_of_le (brEntry_mul_eq he hf) hmap hinv le_rfl r hi, if_pos (.inl hi)]

/-! Bytes and samples: equal samples hold equal bytes, and the walk and the pass list no byte outside the buffer. -/

theorem byteOf_readWord (r : Ram) (w : Nat) {k : Nat} (hk : k < 4) :
    byteOf (r.readWord w) k = r.readByte (ramOffset w + k) := by
  obtain ⟨h₀, h₁, h₂, h₃⟩ := byteOf_wordOf (r.readByte (ramOffset w)) (r.readByte (ramOffset w + 1))
    (r.readByte (ramOffset w + 2)) (r.readByte (ramOffset w + 3))
  interval_cases k
  exacts [h₀, h₁, h₂, h₃]

theorem readByte_eq_of_sample_eq {r r' : Ram} {i a : Nat} (ha : InSample i a) (h : r.sample i = r'.sample i) :
    r.readByte a = r'.readByte a := by
  simp only [Ram.sample, Cplx.mk.injEq] at h
  obtain ⟨hre, him⟩ := h
  have hbyte : ∀ w k, r.readWord w = r'.readWord w → k < 4 →
      r.readByte (ramOffset w + k) = r'.readByte (ramOffset w + k) := fun w k hw hk => by
    rw [← byteOf_readWord r w hk, hw, byteOf_readWord r' w hk]
  unfold InSample at ha
  obtain ⟨k, hk⟩ := Nat.exists_eq_add_of_le ha.1
  by_cases hlow : k < 4
  · have hoff : a = ramOffset (2 * i) + k := by unfold ramOffset; omega
    rw [hoff]
    exact hbyte _ _ hre hlow
  · have hoff : a = ramOffset (2 * i + 1) + (k - 4) := by unfold ramOffset; omega
    rw [hoff]
    exact hbyte _ _ him (by omega)

theorem Ram.readByte_eq_of_lookup {r r' : Ram} {a : Nat} (hera : r.era = r'.era)
    (h : Memory.lookup r.cells a = Memory.lookup r'.cells a) : r.readByte a = r'.readByte a := by
  rw [Ram.readByte, Ram.readByte, h, hera]

theorem not_inSample_of_outside {n a i : Nat} (ha : a < ramStart ∨ ramStart + 8 * n ≤ a) (hi : i < n) :
    ¬InSample i a := by
  unfold InSample
  omega

section Outside

variable {p : Params} {n a : Nat} (hn : p.LegalLength n) (ha : a < ramStart ∨ ramStart + 8 * n ≤ a)
include hn ha

theorem lookup_runPass_of_outside (d : Dir) (m : Nat) (r : Ram) :
    Memory.lookup (runPass p d n m r).cells a = Memory.lookup r.cells a := by
  rw [runPass_eq_foldl]
  refine List.foldlRecOn (motive := fun r' : Ram => Memory.lookup r'.cells a = Memory.lookup r.cells a) _ _ rfl
    fun r' hr' b hb => (lookup_writeQuad_of_not_holds ?_).trans hr'
  rintro ⟨slot, hslot, hin⟩
  exact not_inSample_of_outside ha (index_lt_of_mem_pass hn hb slot hslot) hin

theorem lookup_runReversal_of_outside {f : Nat} (hf : f * n = p.nmax) (r : Ram) :
    Memory.lookup (runReversal p n f r).cells a = Memory.lookup r.cells a := by
  refine List.foldlRecOn (motive := fun r' : Ram => Memory.lookup r'.cells a = Memory.lookup r.cells a) _ _ rfl
    fun r' hr' i hi => ?_
  unfold reversalTurn
  split
  · rw [swapSamples, Ram.lookup_setSample_of_outside (not_inSample_of_outside ha (brEntry_mul_lt hn hf i)),
      Ram.lookup_setSample_of_outside (not_inSample_of_outside ha (List.mem_range.mp hi)), hr']
  · exact hr'

theorem readByte_runReversal_of_outside {f : Nat} (hf : f * n = p.nmax) (r : Ram) :
    (runReversal p n f r).readByte a = r.readByte a :=
  Ram.readByte_eq_of_lookup (runReversal_era p n f r) (lookup_runReversal_of_outside hn ha hf r)

end Outside

/-- Settles O37: the walk applies the reversal of 2e bits and writes only below N. -/
theorem bitrevPermutesSamples : Obligations.BitrevPermutesSamples := by
  intro s p e h h₁ h₂ hn hf
  refine ⟨_, exec_of_some h, runReversal_era .., fun i hi => ?_, fun a ha => ?_⟩
  · rw [hn] at hi hf
    simp only [ramAfter, hn]
    exact sample_runReversal h₂ hf s.ram hi
  · exact readByte_runReversal_of_outside ⟨e, h₁, h₂, hn⟩ ha hf s.ram

/-- Walking twice restores every byte: inside the buffer the permutation is its own inverse. -/
theorem readByte_runReversal_runReversal {p : Params} {n f : Nat} (hn : p.LegalLength n) (hf : f * n = p.nmax) (r : Ram)
    (a : Nat) : (runReversal p n f (runReversal p n f r)).readByte a = r.readByte a := by
  by_cases ha : a < ramStart ∨ ramStart + 8 * n ≤ a
  · rw [readByte_runReversal_of_outside hn ha hf, readByte_runReversal_of_outside hn ha hf]
  · have hin : InSample ((a - ramStart) / 8) a := by unfold InSample; omega
    have hlt : (a - ramStart) / 8 < n := by omega
    obtain ⟨e, -, he, rfl⟩ := hn
    refine readByte_eq_of_sample_eq hin ?_
    rw [sample_runReversal he hf _ hlt, sample_runReversal he hf _ (four_pow_eq e ▸ bitrev_lt _ _),
      bitrev_bitrev (four_pow_eq e ▸ hlt)]

/-- Settles O38. -/
theorem bitrevTwiceIsIdentity : Obligations.BitrevTwiceIsIdentity := fun s _ h hn hf =>
  ⟨_, _, exec_of_some h, exec_of_some rfl, readByte_runReversal_runReversal hn hf s.ram⟩

/-! The transform of length 4. -/

/-- With N = 4 and bit reversal the combinations stand at the indices 0, 2, 1 and 3. -/
theorem quad_xform_four {p : Params} {f : Nat} (hf : f * 4 = p.nmax) (d : Dir) (m : Nat) (r r' : Ram)
    (hr' : r' = runReversal p 4 f (runPass p d 4 m r)) :
    (⟨r'.sample 0, r'.sample 2, r'.sample 1, r'.sample 3⟩ : Quad) =
      combine d ⟨r.sample 0, r.sample 1, r.sample 2, r.sample 3⟩ := by
  have hsample : ∀ i < 4, r'.sample i = (runPass p d 4 m r).sample (bitrev 2 i) := fun i hi => by
    rw [hr']
    exact sample_runReversal (e := 1) (Params.log4Nmax_le p).1 hf _ hi
  rw [← readQuad_runPass_four p d m r, hsample 0 (by norm_num), hsample 1 (by norm_num), hsample 2 (by norm_num),
    hsample 3 (by norm_num)]
  rfl

/-- Settles O40: the four combinations of the direction, moved to the natural order. -/
theorem fourPointXformIsNaturalOrderDft : Obligations.FourPointXformIsNaturalOrderDft := by
  rintro s p h hn hf hbr a b c d rfl rfl rfl rfl
  have hlen : p.n.toNat = 4 := by rw [hn]; rfl
  have hram : ramAfter .xform s.params p s.ram =
      runReversal s.params 4 p.f.toNat (runPass s.params p.dir 4 p.m.toNat s.ram) := by
    simp only [ramAfter, hbr, hlen, if_true]
  have hquad := quad_xform_four hf p.dir p.m.toNat s.ram _ hram
  refine ⟨_, exec_of_some h, ?_⟩
  unfold Pending.dir at hquad
  cases hinv : p.inv <;> simp only [hinv, if_true, Bool.false_eq_true, if_false] at hquad ⊢
  · rw [combine_fwd, Quad.mk.injEq] at hquad
    exact hquad
  · rw [combine_inv, combine_fwd, Quad.mk.injEq] at hquad
    obtain ⟨h₀, h₂, h₁, h₃⟩ := hquad
    exact ⟨h₀, h₂, h₃, h₁⟩

/-- The inverse butterfly after the forward one, its inputs in natural order, multiplies by 4 (43_dispatcher.md R236). -/
theorem combine_inv_combine_fwd (a b c d : Cplx) {x₀ x₁ x₂ x₃ : Cplx} (h : ⟨x₀, x₂, x₁, x₃⟩ = combine .fwd ⟨a, b, c, d⟩) :
    combine .inv ⟨x₀, x₁, x₂, x₃⟩ =
      ⟨⟨4 * a.re, 4 * a.im⟩, ⟨4 * c.re, 4 * c.im⟩, ⟨4 * b.re, 4 * b.im⟩, ⟨4 * d.re, 4 * d.im⟩⟩ := by
  rw [combine_fwd, Quad.mk.injEq] at h
  obtain ⟨rfl, rfl, rfl, rfl⟩ := h
  simp only [combine_inv, combine_fwd, Quad.mk.injEq, Cplx.mk.injEq]
  refine ⟨⟨?_, ?_⟩, ⟨?_, ?_⟩, ⟨?_, ?_⟩, ?_, ?_⟩ <;> ring

end Sys2Proof.Machine

/-! The host port and the sequencer's turn (10_state.md R33 to R47, 20_memory.md R73 to R87, 43_dispatcher.md R230). What a
read or a write of each place answers and stores, the whole state being equated. -/

namespace Sys2Proof.Machine

/-! Reads depend on no field of the model's own. -/

theorem State.withInputs_self {s : State} {es : List Event} (h : s.inputs = es) : s.withInputs es = s := by
  rw [← h]
  rfl

theorem readReg_withInputs (r : Reg) (s : State) (es : List Event) : readReg r (s.withInputs es) = readReg r s := by
  cases r <;> rfl

theorem readReg_withResponse (r : Reg) (s : State) (a : Response) : readReg r (s.withResponse a) = readReg r s := by
  cases r <;> rfl

theorem readPlace_withInputs (l : Place) (s : State) (es : List Event) :
    readPlace l (s.withInputs es) = readPlace l s := by
  cases l with
  | reg r => exact readReg_withInputs r s es
  | _ => rfl

theorem readPlace_withResponse (l : Place) (s : State) (a : Response) :
    readPlace l (s.withResponse a) = readPlace l s := by
  cases l with
  | reg r => exact readReg_withResponse r s a
  | _ => rfl

theorem admitted_withInputs (n off : Nat) (s : State) (es : List Event) :
    admitted n off (s.withInputs es) = admitted n off s := rfl

theorem admitted_withResponse (n off : Nat) (s : State) (a : Response) :
    admitted n off (s.withResponse a) = admitted n off s := rfl

/-- What a read of `n` bytes at an offset answers (20_memory.md R76, R85). -/
def readAnswer (n off : Nat) (s : State) : Response :=
  match admitted n off s with
  | none => .busError
  | some l => .data (readPlace l s)

theorem hostAccess_read {s : State} {a n off : Nat} (ha : a = s.params.base + off) (hoff : off < 0x20000) :
    hostAccess (.read a n) s = .next (s.withResponse (readAnswer n off s)) := by
  unfold readAnswer
  cases hm : admitted n off s with
  | none => exact hostAccess_of_not_admitted ha hoff hm
  | some l => exact hostAccess_read_of_admitted ha hoff hm

theorem readAnswer_withInputs (n off : Nat) (s : State) (es : List Event) :
    readAnswer n off (s.withInputs es) = readAnswer n off s := by
  simp only [readAnswer, admitted_withInputs, readPlace_withInputs]

theorem readAnswer_withResponse (n off : Nat) (s : State) (a : Response) :
    readAnswer n off (s.withResponse a) = readAnswer n off s := by
  simp only [readAnswer, admitted_withResponse, readPlace_withResponse]

theorem step_read {s : State} {a n off : Nat} {rest : List Event} (hr : s.rstN = true)
    (hi : s.inputs = .host (.read a n) :: rest) (ha : a = s.params.base + off) (hoff : off < 0x20000) :
    step s = .next { s with inputs := rest, response := some (readAnswer n off s) } := by
  rw [step_host hr hi, hostAccess_read (s := s.withInputs rest) ha hoff, readAnswer_withInputs]
  rfl

/-- Settles O43: the answer is a function of fields a read does not change. -/
theorem readsHaveNoSideEffect : Obligations.ReadsHaveNoSideEffect := by
  intro s a n rest hr hi hlow hhigh
  obtain ⟨off, rfl⟩ := Nat.exists_eq_add_of_le hlow
  have hoff : off < 0x20000 := by omega
  refine ⟨_, step_read hr hi rfl hoff, fun rest' => ?_⟩
  have hagain := step_read (n := n) (off := off) (rest := rest')
    (s := (s.withResponse (readAnswer n off s)).withInputs (.host (.read (s.params.base + off) n) :: rest')) hr rfl rfl hoff
  rw [readAnswer_withInputs, readAnswer_withResponse] at hagain
  exact hagain

/-! One register. -/

section Register

variable {s : State} {r : Reg} {v : Word} {rest : List Event} (hr : s.rstN = true)
  (hg : s.status.busy = false ∨ r.guarded = false)
include hr hg

theorem step_readReg (hi : s.inputs = hostRead s.params r.offset :: rest) :
    step s = .next { s with inputs := rest, response := some (.data (readReg r s)) } := by
  have hoff : r.offset < 0x20000 := r.offset_lt.trans (by norm_num)
  rw [step_read hr hi rfl hoff, readAnswer, admitted_reg hg]
  rfl

theorem step_writeReg (hi : s.inputs = hostWrite s.params r.offset v :: rest) :
    step s = writeAt (.reg r) v (s.withInputs rest) := by
  rw [step_hostWrite hr hi (r.offset_lt.trans (by norm_num)), admitted_reg (s := s.withInputs rest) hg]

end Register

/-- Settles O44: a write is the store of the register at its offset. -/
theorem registerWritesStoreValue : Obligations.RegisterWritesStoreValue := by
  rintro s _ off v rest hr hi rfl
  refine ⟨?_, fun hb => ⟨?_, ?_, ?_, ?_, ?_, ?_, ?_, ?_⟩⟩ <;> rintro rfl
  · exact step_writeReg (r := .irqen) hr (.inr rfl) hi
  · exact step_writeReg (r := .ctrl) hr (.inl hb) hi
  · exact step_writeReg (r := .len) hr (.inl hb) hi
  · exact step_writeReg (r := .twmod) hr (.inl hb) hi
  · exact step_writeReg (r := .brfact) hr (.inl hb) hi
  · exact step_writeReg (r := .opa) hr (.inl hb) hi
  · exact step_writeReg (r := .opb) hr (.inl hb) hi
  · exact step_writeReg (r := .accLo) hr (.inl hb) hi
  · exact step_writeReg (r := .accHi) hr (.inl hb) hi

/-! The words that hold flags (10_state.md R35, R40 to R44). -/

theorem ctrlWord_bits (c : Ctrl) : (ctrlWord c).getLsbD 0 = c.inv ∧ (ctrlWord c).getLsbD 1 = c.bitrev ∧
    (ctrlWord c).extractLsb' 2 30 = 0 := by
  obtain ⟨inv, br⟩ := c
  cases inv <;> cases br <;> decide

theorem irqenWord_bits (e : IrqEn) : (irqenWord e).getLsbD 1 = e.doneIe ∧ (irqenWord e).getLsbD 2 = e.errIe ∧
    (irqenWord e).extractLsb' 0 1 = 0 ∧ (irqenWord e).extractLsb' 3 29 = 0 := by
  obtain ⟨d, r⟩ := e
  cases d <;> cases r <;> decide

theorem statusWord_bits (st : Status) : (statusWord st).getLsbD 0 = st.busy ∧ (statusWord st).getLsbD 1 = st.done ∧
    (statusWord st).getLsbD 2 = st.err := by
  simp only [statusWord, BitVec.getLsbD_append]
  simp

theorem statusWord_fields (st : Status) : (statusWord st).extractLsb' 3 5 = 0 ∧
    (statusWord st).extractLsb' 8 4 = st.errcode ∧ (statusWord st).extractLsb' 12 20 = 0 := by
  refine ⟨?_, ?_, ?_⟩ <;>
  · apply BitVec.eq_of_getLsbD_eq
    intro i hi
    simp only [statusWord, BitVec.getLsbD_append, BitVec.getLsbD_extractLsb']
    interval_cases i <;> simp

theorem ctrlWord_ctrlOf (v : Word) : ctrlWord (ctrlOf v) = v &&& 3 := by
  apply BitVec.eq_of_getLsbD_eq
  intro i hi
  simp only [ctrlWord, ctrlOf, BitVec.getLsbD_append, BitVec.getLsbD_and]
  interval_cases i <;> simp

theorem irqenWord_irqenOf (v : Word) : irqenWord (irqenOf v) = v &&& 6 := by
  apply BitVec.eq_of_getLsbD_eq
  intro i hi
  simp only [irqenWord, irqenOf, BitVec.getLsbD_append, BitVec.getLsbD_and]
  interval_cases i <;> simp

/-- The flags of STATUS and the enables of IRQEN stand at the same bits, and IRQEN has no others (10_state.md R44). -/
theorem statusWord_and_irqenWord (st : Status) (e : IrqEn) :
    statusWord st &&& irqenWord e = irqenWord ⟨st.done && e.doneIe, st.err && e.errIe⟩ := by
  apply BitVec.eq_of_getLsbD_eq
  intro i hi
  simp only [irqenWord, statusWord, BitVec.getLsbD_append, BitVec.getLsbD_and]
  interval_cases i <;> simp

theorem irqenWord_ne_zero_iff (e : IrqEn) : irqenWord e ≠ 0 ↔ (e.doneIe || e.errIe) = true := by
  obtain ⟨d, r⟩ := e
  cases d <;> cases r <;> decide

/-- Settles O50: the bits that STATUS and IRQEN share are the two terms of irq. -/
theorem irqIsEnabledStatus : Obligations.IrqIsEnabledStatus := by
  intro s
  rw [statusWord_and_irqenWord, irqenWord_ne_zero_iff]
  rfl

theorem accLo_accOf (hi lo : Word) : accLo (accOf hi lo) = lo := by
  apply BitVec.eq_of_getLsbD_eq
  intro i hlt
  rw [accLo, accOf, BitVec.getLsbD_extractLsb', BitVec.getLsbD_append]
  simp [hlt]

theorem accHi_accOf (hi lo : Word) : accHi (accOf hi lo) = hi := by
  apply BitVec.eq_of_getLsbD_eq
  intro i hlt
  rw [accHi, accOf, BitVec.getLsbD_extractLsb', BitVec.getLsbD_append]
  simp [hlt]

/-! A write, then a read of the same register. -/

theorem run_succ {s t : State} (h : step s = .next t) (k : Nat) :
    Host.Core.run Sys2Proof.core (k + 1) s = Host.Core.run Sys2Proof.core k t := by
  have hcore : Sys2Proof.core.step s = .next t := h
  simp only [Host.Core.run, hcore]

theorem writeAt_of_storePlace {l : Place} {v : Word} {s x : State} (hcmd : l ≠ .reg .cmd) (h : storePlace l v s = some x) :
    writeAt l v s = .next (x.withResponse .written) := by
  rw [writeAt, if_neg hcmd, h]

theorem run_write_read {s x : State} {r : Reg} {v v' : Word} (hr : s.rstN = true) (hb : s.status.busy = false)
    (hi : s.inputs = [hostWrite s.params r.offset v, hostRead s.params r.offset]) (hcmd : r ≠ .cmd)
    (hx : storePlace (.reg r) v (s.withInputs [hostRead s.params r.offset]) = some x)
    (hframe : x.rstN = true ∧ x.status.busy = false ∧ x.inputs = [hostRead x.params r.offset]) (hv : readReg r x = v') :
    ∃ t, Host.Core.run Sys2Proof.core 2 s = .next t ∧ t.response = some (.data v') := by
  obtain ⟨hrx, hbx, hix⟩ := hframe
  have hwrite : step s = .next (x.withResponse .written) := by
    rw [step_writeReg hr (.inl hb) hi]
    exact writeAt_of_storePlace (fun h => hcmd (Place.reg.inj h)) hx
  have hread := step_readReg (s := x.withResponse .written) hrx (.inl hbx) hix
  rw [readReg_withResponse, hv] at hread
  exact ⟨_, (run_succ hwrite 1).trans (run_succ hread 0), rfl⟩

/-- Settles O45: the answer is the register's word, and what a write stores is what the read then answers. -/
theorem registersReadBack : Obligations.RegistersReadBack := by
  refine ⟨fun s rest hr => ⟨fun hi => ?_, fun hb => ⟨fun hi => ?_, ?_⟩⟩, fun s off v hr hb hi => ⟨?_, ?_, ?_⟩⟩
  · exact ⟨_, step_readReg (r := .irqen) hr (.inr rfl) hi, irqenWord_bits s.irqen⟩
  · exact ⟨_, step_readReg (r := .ctrl) hr (.inl hb) hi, ctrlWord_bits s.ctrl⟩
  · simp only [List.forall_mem_cons]
    exact ⟨step_readReg (r := .len) hr (.inl hb), step_readReg (r := .twmod) hr (.inl hb),
      step_readReg (r := .brfact) hr (.inl hb), step_readReg (r := .opa) hr (.inl hb), step_readReg (r := .opb) hr (.inl hb),
      step_readReg (r := .accLo) hr (.inl hb), step_readReg (r := .accHi) hr (.inl hb),
      step_readReg (r := .res) hr (.inl hb), List.forall_mem_nil _⟩
  · intro hoff
    simp only [List.mem_cons, List.not_mem_nil, or_false] at hoff
    obtain rfl | rfl | rfl | rfl | rfl | rfl | rfl := hoff
    · exact run_write_read (r := .len) hr hb hi nofun rfl ⟨hr, hb, rfl⟩ rfl
    · exact run_write_read (r := .twmod) hr hb hi nofun rfl ⟨hr, hb, rfl⟩ rfl
    · exact run_write_read (r := .brfact) hr hb hi nofun rfl ⟨hr, hb, rfl⟩ rfl
    · exact run_write_read (r := .opa) hr hb hi nofun rfl ⟨hr, hb, rfl⟩ rfl
    · exact run_write_read (r := .opb) hr hb hi nofun rfl ⟨hr, hb, rfl⟩ rfl
    · exact run_write_read (r := .accLo) hr hb hi nofun rfl ⟨hr, hb, rfl⟩ (accLo_accOf ..)
    · exact run_write_read (r := .accHi) hr hb hi nofun rfl ⟨hr, hb, rfl⟩ (accHi_accOf ..)
  · rintro rfl
    exact run_write_read (r := .ctrl) hr hb hi nofun rfl ⟨hr, hb, rfl⟩ (ctrlWord_ctrlOf v)
  · rintro rfl
    exact run_write_read (r := .irqen) hr hb hi nofun rfl ⟨hr, hb, rfl⟩ (irqenWord_irqenOf v)

/-! The registers of fixed content, and STATUS. -/

theorem capWord_fields (p : Params) : ((capWord p).extractLsb' 0 4).toNat = p.log4Nmax ∧
    (capWord p).extractLsb' 4 4 = 1 ∧ (capWord p).extractLsb' 8 24 = 0 := by
  obtain ⟨h₁, h₂⟩ := Params.log4Nmax_le p
  unfold capWord
  generalize p.log4Nmax = k at h₁ h₂
  interval_cases k <;> decide

/-- Settles O48. -/
theorem constantRegistersRead : Obligations.ConstantRegistersRead := fun s _ hr =>
  ⟨step_readReg (r := .id) hr (.inr rfl), fun hi => ⟨_, step_readReg (r := .cap) hr (.inr rfl) hi, capWord_fields s.params⟩,
    fun hb => step_readReg (r := .cmd) hr (.inl hb)⟩

theorem clearWritten_eq (v : Word) (s : State) : clearWritten v s = s.withStatus {
    busy := s.status.busy
    done := if v.getLsbD 1 then false else s.status.done
    err := if v.getLsbD 2 then false else s.status.err
    errcode := if v.getLsbD 2 then 0 else s.status.errcode } := by
  unfold clearWritten
  cases v.getLsbD 1 <;> cases v.getLsbD 2 <;> simp

/-- Settles O49. -/
theorem statusReadsAndClears : Obligations.StatusReadsAndClears := by
  intro s rest hr
  refine ⟨fun hi => ⟨_, step_readReg (r := .status) hr (.inr rfl) hi, ?_⟩, fun v hi => ?_⟩
  · obtain ⟨hbusy, hdone, herr⟩ := statusWord_bits s.status
    exact ⟨hbusy, hdone, herr, statusWord_fields s.status⟩
  · have hstore : step s = .next ((clearWritten v (s.withInputs rest)).withResponse .written) :=
      step_writeReg (r := .status) hr (.inr rfl) hi
    rw [hstore, clearWritten_eq]
    rfl

/-! The memory windows (20_memory.md R78 to R80). -/

theorem admitted_ram {s : State} {w : Nat} (hb : s.status.busy = false) (hw : w < 2 * s.params.nmax) :
    admitted 4 (0x8000 + 4 * w) s = some (.ram w) := by
  rw [admitted_eq_some, placeAt_eq_some]
  exact ⟨rfl, by omega, by dsimp only; omega, by simp [hb]⟩

theorem admitted_tw {s : State} {w : Nat} (hw : 2 * w < 3 * s.params.nmax) :
    admitted 4 (0x10000 + 4 * w) s = some (.tw w) := by
  rw [admitted_eq_some, placeAt_eq_some]
  exact ⟨rfl, by omega, by dsimp only; omega, by simp [Place.guarded]⟩

theorem admitted_br {s : State} {i : Nat} (hi : i < s.params.nmax) :
    admitted 4 (0x18000 + 4 * i) s = some (.br i) := by
  rw [admitted_eq_some, placeAt_eq_some]
  exact ⟨rfl, by omega, by dsimp only; omega, by simp [Place.guarded]⟩

theorem step_readAdmitted {s : State} {off : Nat} {l : Place} {rest : List Event} (hr : s.rstN = true)
    (hi : s.inputs = hostRead s.params off :: rest) (hoff : off < 0x20000) (hm : admitted 4 off s = some l) :
    step s = .next { s with inputs := rest, response := some (.data (readPlace l s)) } := by
  rw [step_read hr hi rfl hoff, readAnswer, hm]

/-- Settles O46: a word of the RAM is read and written as its four bytes. -/
theorem ramWindowReadsAndWrites : Obligations.RamWindowReadsAndWrites := by
  intro s w rest hr hb hw
  have hoff : 0x8000 + 4 * w < 0x20000 := by have := (Params.nmax_bounds s.params).2; omega
  refine ⟨fun hi => step_readAdmitted hr hi hoff (admitted_ram hb hw), fun v hi => ⟨s.ram.writeWord w v, ?_,
    Ram.writeWord_era .., Ram.readWord_writeWord_same .., fun b hb4 => ?_, fun a ha => ?_⟩⟩
  · rw [step_hostWrite hr hi hoff, admitted_ram (s := s.withInputs rest) hb hw]
    rfl
  · have hbyte := byteOf_readWord (s.ram.writeWord w v) w hb4
    rw [Ram.readWord_writeWord_same] at hbyte
    exact hbyte.symm
  · exact Ram.readByte_writeWord_of_outside ha

theorem twWord_even (p : Params) (m : Nat) : twWord p (2 * m) = (twEntry p m).re := by
  simp [twWord]

theorem twWord_odd (p : Params) (m : Nat) : twWord p (2 * m + 1) = (twEntry p m).im := by
  rw [twWord, if_neg (by omega), show (2 * m + 1) / 2 = m by omega]

theorem brEntry_lt (p : Params) (i : Nat) : brEntry p i < p.nmax := by
  rw [Params.nmax_eq_two_pow]
  exact bitrev_lt _ _

/-- Settles O47: the ROM words stand at their offsets, which no guard locks. -/
theorem romWindowsRead : Obligations.RomWindowsRead := by
  intro s m rest hr
  obtain ⟨-, hmax⟩ := Params.nmax_bounds s.params
  refine ⟨fun hm => ⟨fun hi => ?_, fun hi => ?_⟩, fun hm hi => ?_⟩
  · rw [← twWord_even]
    exact step_readAdmitted hr hi (by omega) (by
      rw [show 0x10000 + 8 * m = 0x10000 + 4 * (2 * m) by omega]
      exact admitted_tw (by omega))
  · rw [← twWord_odd]
    exact step_readAdmitted hr hi (by omega) (by
      rw [show 0x10000 + 8 * m + 4 = 0x10000 + 4 * (2 * m + 1) by omega]
      exact admitted_tw (by omega))
  · have hentry : brEntry s.params m < 2 ^ 32 := (brEntry_lt _ m).trans (by omega)
    exact ⟨_, (BitVec.toNat_ofNat ..).trans (Nat.mod_eq_of_lt hentry), step_readAdmitted hr hi (by omega) (admitted_br hm)⟩

/-! Presenting a command (43_dispatcher.md R230, 30_encoding.md R115). -/

theorem presentWord_of_ok {w : Word} {i : Instr} (h : decode w = .ok i) (s : State) : presentWord w s = exec i s := by
  rw [presentWord, h]

theorem step_cmdWrite {s : State} {w : Word} {rest : List Event} (hr : s.rstN = true) (hb : s.status.busy = false)
    (hi : s.inputs = hostWrite s.params 0x018 w :: rest) :
    step s = presentWord w { s with inputs := rest, response := some .written } :=
  step_writeReg (r := .cmd) hr (.inl hb) hi

/-- Settles O6. -/
theorem stepPresentsDecodedCommand : Obligations.StepPresentsDecodedCommand := by
  intro s w i rest hr hb hi hw
  rw [step_cmdWrite hr hb hi, presentWord_of_ok hw]

/-- The opcodes of the map are 0 to 4 and 0x10 to 0x15, and only the last two take SH (30_encoding.md R113). -/
theorem opcode_cases (i : Instr) : (i.opcode ≤ 0x04 ∨ 0x10 ≤ i.opcode ∧ i.opcode ≤ 0x15) ∧
    (i.shAmount ≠ 0 → i.opcode = 0x14 ∨ i.opcode = 0x15) := by
  cases i <;> simp [Instr.opcode, Instr.shAmount]

/-- A reserved word decodes to no command: the fields of a legal one meet none of the three clauses of R115. -/
theorem decode_ne_ok_of_reserved {w : Word}
    (h : (0x05 ≤ (w.extractLsb' 0 5).toNat ∧ (w.extractLsb' 0 5).toNat ≤ 0x0F) ∨ 0x16 ≤ (w.extractLsb' 0 5).toNat ∨
      w.extractLsb' 5 3 ≠ 0 ∨ w.extractLsb' 14 18 ≠ 0 ∨
      (w.extractLsb' 8 6 ≠ 0 ∧ w.extractLsb' 0 5 ≠ 0x14 ∧ w.extractLsb' 0 5 ≠ 0x15)) (i : Instr) : decode w ≠ .ok i := by
  intro hw
  obtain ⟨hop, hrsv0, hsh, hrsv1⟩ := decode_eq_ok_iff_fields.mp hw
  have hop' : (w.extractLsb' 0 5).toNat = i.opcode := (BitVec.extractLsb'_toNat 0 5 w).trans hop
  obtain ⟨hopcode, hshift⟩ := opcode_cases i
  obtain ⟨hlow, hhigh⟩ | hhigh | hne | hne | ⟨hne, hne₁, hne₂⟩ := h
  · omega
  · omega
  · exact hne (BitVec.eq_of_toNat_eq ((BitVec.extractLsb'_toNat 5 3 w).trans hrsv0))
  · exact hne (BitVec.eq_of_toNat_eq ((BitVec.extractLsb'_toNat 14 18 w).trans hrsv1))
  · have hsh0 : i.shAmount ≠ 0 := fun h0 =>
      hne (BitVec.eq_of_toNat_eq ((BitVec.extractLsb'_toNat 8 6 w).trans (hsh.trans h0)))
    obtain heq | heq := hshift hsh0
    · exact hne₁ (BitVec.eq_of_toNat_eq (hop'.trans heq))
    · exact hne₂ (BitVec.eq_of_toNat_eq (hop'.trans heq))

/-- Settles O5: a reserved word decodes to an error, which the idle block reports. -/
theorem reservedWordsRejected : Obligations.ReservedWordsRejected := by
  rintro s w rest ⟨hr, hb, -⟩ hi hres
  rw [step_cmdWrite hr hb hi, presentWord]
  cases hw : decode w with
  | ok i => exact absurd hw (decode_ne_ok_of_reserved hres i)
  | error e => simp only [raiseCmdError, clearOutcome, State.withStatus, rejectedState, hb, CmdError.code]

/-! The sequencer's turn (70_reset_and_hazards.md R294, R303). -/

theorem step_sequencer {s : State} {rest : List Event} (hi : s.inputs = .sequencer :: rest) :
    step s = sequencerTurn (s.withInputs rest) := by
  rw [step, nextEvent, hi]
  rfl

theorem step_emptyQueue {s : State} (hi : s.inputs = []) : step s = sequencerTurn s := by
  rw [step, nextEvent, hi]
  exact congrArg sequencerTurn (State.withInputs_self hi)

theorem sequencerTurn_of_none {s : State} (h : s.pending = none) : sequencerTurn s = .next s := by
  rw [sequencerTurn, h]

/-- Settles O7. -/
theorem stepCompletesPendingCommand : Obligations.StepCompletesPendingCommand := fun s _ hr hp =>
  ⟨fun rest hi => (step_sequencer hi).trans (sequencerTurn_of_some (s := s.withInputs rest) hr hp),
    fun hi => (step_emptyQueue hi).trans (sequencerTurn_of_some hr hp)⟩

/-- Settles O8. -/
theorem idleBlockWaits : Obligations.IdleBlockWaits := fun s hp =>
  ⟨fun hi => (step_emptyQueue hi).trans (sequencerTurn_of_none hp),
    fun rest hi => (step_sequencer hi).trans (sequencerTurn_of_none (s := s.withInputs rest) hp)⟩

/-! The BUSY guard, and the steps that answer no next state. -/

/-- What a store to a place the guard does not lock changes: STATUS, and not its BUSY, and IRQEN. -/
theorem storePlace_of_not_guarded {l : Place} {v : Word} {s x : State} (hl : l.guarded = false)
    (hx : storePlace l v s = some x) :
    x.status.busy = s.status.busy ∧ x = { s with status := x.status, irqen := x.irqen } := by
  cases l with
  | reg r =>
    cases r <;> cases hl <;> cases hx
    · exact ⟨rfl, rfl⟩
    · exact ⟨rfl, rfl⟩
  | ram w => cases hl
  | tw w => cases hx
  | br i => cases hx

theorem hostAccess_of_busy {s u : State} {t : Txn} (hb : s.status.busy = true) (h : hostAccess t s = .next u) :
    u.status.busy = true ∧ u = { s with response := u.response, status := u.status, irqen := u.irqen } := by
  obtain ⟨off, -, -, ⟨-, rfl⟩ | ⟨l, hm, haccess⟩⟩ := hostAccess_next h
  · exact ⟨hb, rfl⟩
  obtain ⟨-, -, -, hguard⟩ := admitted_eq_some.mp hm
  have hl : l.guarded = false := by simpa [hb] using hguard
  obtain ⟨a, n, -, rfl⟩ | ⟨a, n, v, -, ⟨rfl, -⟩ | ⟨-, -, rfl⟩ | ⟨x, -, hx, rfl⟩⟩ := haccess
  · exact ⟨hb, rfl⟩
  · cases hl
  · exact ⟨hb, rfl⟩
  · obtain ⟨hbusy, hframe⟩ := storePlace_of_not_guarded hl hx
    refine ⟨hbusy.trans hb, ?_⟩
    rw [hframe]
    rfl

theorem rstN_of_step_host {s u : State} {t : Txn} {rest : List Event} (hi : s.inputs = .host t :: rest)
    (h : step s = .next u) : s.rstN = true := by
  by_contra hr
  rw [step, nextEvent, hi] at h
  simp [handle, hostTurn, hr] at h

/-- Settles O51: the guard leaves STATUS and IRQEN to be stored to, and reads and errors change the answer only. -/
theorem busyGuardProtectsCommand : Obligations.BusyGuardProtectsCommand := by
  intro s u t rest hb hi h
  have hr := rstN_of_step_host hi h
  rw [step_host hr hi] at h
  exact hostAccess_of_busy (s := s.withInputs rest) hb h

theorem hostAccess_outside {s : State} {t : Txn} (h : t.addr < s.params.base ∨ s.params.base + 0x20000 ≤ t.addr) :
    hostAccess t s = .fault (.outsideWindow t.addr) := by
  have hout : offsetOf s.params t.addr = none := by
    rw [offsetOf, windowBytes, if_neg (by omega)]
  rw [hostAccess, hout]

theorem exists_hostAccess_next_of_inside {s : State} {t : Txn} (hlow : s.params.base ≤ t.addr)
    (hhigh : t.addr < s.params.base + 0x20000) : ∃ u, hostAccess t s = .next u := by
  obtain ⟨off, hoff⟩ := Nat.exists_eq_add_of_le hlow
  by_cases hcause : BusErrorCause s t off
  · exact ⟨_, hostAccess_of_busErrorCause hoff (by omega) hcause⟩
  · obtain ⟨u, hu, -⟩ := exists_hostAccess_next hoff (by omega) hcause
    exact ⟨u, hu⟩

theorem exists_sequencerTurn_next (s : State) : ∃ u, sequencerTurn s = .next u := by
  unfold sequencerTurn
  cases s.pending with
  | none => exact ⟨s, rfl⟩
  | some p =>
    dsimp only
    split
    · obtain ⟨u, hu, -⟩ := exists_exec_next p.cmd s
      exact ⟨u, hu⟩
    · exact ⟨s, rfl⟩

theorem step_rstN {s : State} {level : Bool} {rest : List Event} (hi : s.inputs = .rstN level :: rest) :
    step s = .next (setResetLevel level (s.withInputs rest)) := by
  rw [step, nextEvent, hi]
  rfl

theorem step_host_inReset {s : State} {t : Txn} {rest : List Event} (hr : s.rstN = false)
    (hi : s.inputs = .host t :: rest) : step s = .refused .hostDuringReset := by
  rw [step, nextEvent, hi]
  simp [handle, hostTurn, hr]

/-- Settles O52: by the next event; a command always answers a next state, and so does an access inside the window. -/
theorem stopsOnlyOutsideTheSpec : Obligations.StopsOnlyOutsideTheSpec := by
  refine ⟨fun s t rest hi => ⟨fun hr => step_host_inReset hr hi, fun hr hout => ?_⟩, fun s => ?_⟩
  · rw [step_host hr hi]
    exact hostAccess_outside (s := s.withInputs rest) hout
  · match hi : s.inputs with
    | [] => exact .inl (step_emptyQueue hi ▸ exists_sequencerTurn_next s)
    | .sequencer :: rest => exact .inl (step_sequencer hi ▸ exists_sequencerTurn_next _)
    | .rstN level :: rest => exact .inl ⟨_, step_rstN hi⟩
    | .host t :: rest =>
      cases hr : s.rstN with
      | false => exact .inr ⟨t, rest, rfl, .inl rfl⟩
      | true =>
        by_cases hin : s.params.base ≤ t.addr ∧ t.addr < s.params.base + 0x20000
        · obtain ⟨hlow, hhigh⟩ := hin
          exact .inl (step_host hr hi ▸ exists_hostAccess_next_of_inside (s := s.withInputs rest) hlow hhigh)
        · exact .inr ⟨t, rest, rfl, .inr (by omega)⟩

/-! Reset (70_reset_and_hazards.md R290 to R294). -/

/-- Settles O53. -/
theorem resetLeavesSpecifiedValues : Obligations.ResetLeavesSpecifiedValues := by
  rintro s rfl
  refine ⟨rfl, rfl, ?_, rfl, rfl, rfl, rfl, rfl⟩
  simp only [List.forall_mem_cons]
  decide

/-- Settles O54: the new level is the reset state, or the state as it is. -/
theorem assertedResetForgetsEverything : Obligations.AssertedResetForgetsEverything :=
  ⟨fun _ _ hi => step_rstN hi, fun _ _ hi =>
    ⟨_, step_rstN hi, rfl, rfl, rfl, rfl, rfl, rfl, rfl, rfl, rfl, rfl, rfl, rfl, rfl, rfl, rfl, rfl⟩⟩

end Sys2Proof.Machine

/-! Every step of the machine (10_state.md R40, R43, R48, R52, 60_exceptions.md R251, R261, 70_reset_and_hazards.md R290,
R303): what a step can change, said once for a command and once for a host access, and the invariant kept. -/

namespace Sys2Proof.Machine

/-! Everything an operation can do. -/

theorem eq_of_exec_of_some {i : Instr} {s u : State} {p : Pending} (hp : s.pending = some p) (h : exec i s = .next u) :
    u = { completedState s with
      acc := accAfter i s.acc s.opa s.opb
      res := resAfter i s.acc s.res
      ram := ramAfter i s.params p s.ram } :=
  (Host.Outcome.next.inj ((exec_of_some hp).symm.trans h)).symm

/-- A command is accepted, rejected or completed (43_dispatcher.md R230, 70_reset_and_hazards.md R303). -/
theorem exec_next {i : Instr} {s u : State} (h : exec i s = .next u) :
    (s.pending = none ∧ check i s = none ∧ u = acceptedState i s) ∨
    (s.pending = none ∧ ∃ e, u = raiseCmdError e (clearOutcome s)) ∨
    ∃ p, s.pending = some p ∧ u = { completedState s with
      acc := accAfter i s.acc s.opa s.opb
      res := resAfter i s.acc s.res
      ram := ramAfter i s.params p s.ram } := by
  cases hp : s.pending with
  | none =>
    obtain rfl : accept i s = u := Host.Outcome.next.inj ((exec_of_none hp).symm.trans h)
    obtain ⟨hcheck, haccept⟩ | ⟨e, -, haccept⟩ := accept_cases i s
    · exact .inl ⟨rfl, hcheck, haccept⟩
    · exact .inr (.inl ⟨rfl, e, haccept⟩)
  | some p => exact .inr (.inr ⟨p, rfl, eq_of_exec_of_some hp h⟩)

/-- A host access changes the answer alone, presents a word to the block that is not BUSY, or stores a word at an
admitted place. -/
theorem hostAccess_cases {t : Txn} {s u : State} (h : hostAccess t s = .next u) :
    (∃ a, u = s.withResponse a) ∨
    (∃ v, .host t = hostWrite s.params 0x018 v ∧ s.status.busy = false ∧
      presentWord v (s.withResponse .written) = .next u) ∨
    ∃ off v l x, .host t = hostWrite s.params off v ∧ admitted 4 off s = some l ∧ storePlace l v s = some x ∧
      u = x.withResponse .written := by
  obtain ⟨off, haddr, -, ⟨-, rfl⟩ | ⟨l, hm, haccess⟩⟩ := hostAccess_next h
  · exact .inl ⟨_, rfl⟩
  obtain ⟨a, n, -, rfl⟩ | ⟨a, n, v, rfl, hwrite⟩ := haccess
  · exact .inl ⟨_, rfl⟩
  obtain ⟨hn, -, hplace, hguard⟩ := admitted_eq_some.mp hm
  obtain rfl : n = 4 := hn
  obtain rfl : a = s.params.base + off := haddr
  obtain ⟨rfl, hpresent⟩ | ⟨-, -, rfl⟩ | ⟨x, -, hx, rfl⟩ := hwrite
  · obtain rfl : off = 0x018 := placeAt_eq_some.mp hplace
    exact .inr (.inl ⟨v, rfl, by simpa [Place.guarded, Reg.guarded] using hguard, hpresent⟩)
  · exact .inl ⟨_, rfl⟩
  · exact .inr (.inr ⟨off, v, l, x, rfl, hm, hx, rfl⟩)

/-- A store keeps PENDING, changes STATUS by W1C alone, and the RAM only at the word it names (20_memory.md R77, R78). -/
theorem storePlace_frame {l : Place} {v : Word} {s x : State} (h : storePlace l v s = some x) :
    x.params = s.params ∧ x.pending = s.pending ∧ x.rstN = s.rstN ∧
      (x.status = s.status ∨ x.status = (clearWritten v s).status) ∧
      (x.ram = s.ram ∨ ∃ w, l = .ram w ∧ x.ram = s.ram.writeWord w v) := by
  cases l with
  | reg r => cases r <;> cases h <;> simp
  | ram w => cases h; simp
  | tw w => cases h
  | br i => cases h

/-! The parameters. -/

theorem exec_params {i : Instr} {s u : State} (h : exec i s = .next u) : u.params = s.params := by
  obtain ⟨-, -, rfl⟩ | ⟨-, e, rfl⟩ | ⟨p, -, rfl⟩ := exec_next h <;> rfl

theorem presentWord_params {w : Word} {s u : State} (h : presentWord w s = .next u) : u.params = s.params := by
  unfold presentWord at h
  cases hw : decode w with
  | error e => rw [hw] at h; cases h; rfl
  | ok i => rw [hw] at h; exact exec_params h

theorem hostAccess_params {t : Txn} {s u : State} (h : hostAccess t s = .next u) : u.params = s.params := by
  obtain ⟨a, rfl⟩ | ⟨v, -, -, hpresent⟩ | ⟨off, v, l, x, -, -, hx, rfl⟩ := hostAccess_cases h
  · rfl
  · exact (presentWord_params hpresent).trans rfl
  · exact (storePlace_frame hx).1

theorem step_params {s t : State} (h : step s = .next t) : t.params = s.params := by
  obtain ⟨txn, rest, -, -, haccess⟩ | ⟨rest, -, ⟨p, -, -, hexec⟩ | ⟨-, rfl⟩⟩ | ⟨level, rest, -, rfl⟩ := step_next h
  · exact (hostAccess_params haccess).trans rfl
  · exact (exec_params hexec).trans rfl
  · rfl
  · cases level <;> rfl

/-- Settles O57. -/
theorem stepKeepsParameters : Obligations.StepKeepsParameters := fun _ _ h =>
  ⟨step_params h, fun w => by rw [step_params h]⟩

/-! BUSY. -/

/-- Presenting a word sets BUSY only where the word decodes and its command is accepted. -/
theorem pending_of_presentWord_busy {w : Word} {s u : State} (h : presentWord w s = .next u) (h₀ : s.status.busy = false)
    (h₁ : u.status.busy = true) : ∃ i, decode w = .ok i ∧ u.pending.map Pending.cmd = some i := by
  have hclear : (clearOutcome s).status.busy ≠ true := by simp [h₀]
  cases hw : decode w with
  | error e =>
    rw [presentWord, hw] at h
    cases h
    exact absurd h₁ hclear
  | ok i =>
    rw [presentWord_of_ok hw] at h
    obtain ⟨-, -, rfl⟩ | ⟨-, e, rfl⟩ | ⟨p, -, rfl⟩ := exec_next h
    · exact ⟨i, rfl, rfl⟩
    · exact absurd h₁ hclear
    · cases h₁

theorem storePlace_busy {l : Place} {v : Word} {s x : State} (h : storePlace l v s = some x) :
    x.status.busy = s.status.busy := by
  obtain ⟨-, -, -, hst | hst, -⟩ := storePlace_frame h
  · rw [hst]
  · rw [hst]
    rfl

theorem busy_cases_of_eq {a b : Bool} {P Q : Prop} (h : b = a) :
    (a = false → b = true → P) ∧ (a = true → b = false → Q) := by
  subst h
  cases b <;> simp

/-- Settles O58: by what a command, a store and a reset do to BUSY. -/
theorem busyChangesOnlyByCommandOrReset : Obligations.BusyChangesOnlyByCommandOrReset := by
  intro s t h
  obtain ⟨txn, rest, hi, -, haccess⟩ | ⟨rest, hi, ⟨p, hp, -, hexec⟩ | ⟨-, rfl⟩⟩ | ⟨level, rest, hi, rfl⟩ := step_next h
  · obtain ⟨a, rfl⟩ | ⟨v, htxn, hb, hpresent⟩ | ⟨off, v, l, x, -, -, hx, rfl⟩ := hostAccess_cases haccess
    · exact busy_cases_of_eq rfl
    · refine ⟨fun _ h₁ => ?_, fun h₁ => absurd (h₁.symm.trans hb) nofun⟩
      obtain ⟨i, hw, hpend⟩ := pending_of_presentWord_busy hpresent hb h₁
      exact ⟨v, i, rest, htxn ▸ hi, hw, hpend⟩
    · have hbusy : x.status.busy = s.status.busy := storePlace_busy (s := s.withInputs rest) hx
      exact busy_cases_of_eq hbusy
  · obtain rfl := eq_of_exec_of_some (s := s.withInputs rest) hp hexec
    exact ⟨fun _ h₁ => absurd h₁ nofun,
      fun _ _ => .inr ⟨by rw [hp]; rfl, rfl, rfl, hi.imp And.left fun hi => ⟨rest, hi⟩⟩⟩
  · exact busy_cases_of_eq rfl
  · cases level with
    | false => exact ⟨fun _ h₁ => absurd h₁ nofun, fun _ _ => .inl ⟨rest, hi⟩⟩
    | true => exact busy_cases_of_eq rfl

/-! The bytes a command's completion lists. -/

/-- A legal record keeps the completion inside its buffer (41_butterfly.md R192, 42_bitreversal.md R213). -/
theorem lookup_ramAfter_of_outside {i : Instr} {ps : Params} {p : Pending} {a : Nat}
    (hlen : i.UsesLen → ps.LegalLength p.n.toNat) (hrev : i.RunsBitrev p.br → p.f.toNat * p.n.toNat = ps.nmax)
    (ha : i.UsesLen → a < ramStart ∨ ramStart + 8 * p.n.toNat ≤ a) (r : Ram) :
    Memory.lookup (ramAfter i ps p r).cells a = Memory.lookup r.cells a := by
  cases i with
  | bflyFwd =>
    have huses : Instr.UsesLen .bflyFwd := .inr (.inl rfl)
    exact lookup_runPass_of_outside (hlen huses) (ha huses) ..
  | bflyInv =>
    have huses : Instr.UsesLen .bflyInv := .inr (.inr (.inl rfl))
    exact lookup_runPass_of_outside (hlen huses) (ha huses) ..
  | bitrev =>
    have huses : Instr.UsesLen .bitrev := .inr (.inr (.inr rfl))
    exact lookup_runReversal_of_outside (hlen huses) (ha huses) (hrev (.inl rfl)) r
  | xform =>
    have hn := hlen (.inl rfl)
    have hout := ha (.inl rfl)
    rw [ramAfter]
    split
    · next hbr =>
      rw [lookup_runReversal_of_outside hn hout (hrev (.inr ⟨rfl, hbr⟩)), lookup_runPass_of_outside hn hout]
    · exact lookup_runPass_of_outside hn hout ..
  | _ => rfl

theorem ramAfter_wf (i : Instr) (ps : Params) (p : Pending) {r : Ram} (h : Memory.wf r.cells) :
    Memory.wf (ramAfter i ps p r).cells := by
  cases i with
  | bflyFwd => exact runPass_wf _ _ _ _ h
  | bflyInv => exact runPass_wf _ _ _ _ h
  | bitrev => exact runReversal_wf _ _ _ h
  | xform =>
    rw [ramAfter]
    split
    · exact runReversal_wf _ _ _ (runPass_wf _ _ _ _ h)
    · exact runPass_wf _ _ _ _ h
  | _ => exact h

theorem Memory.lookup_of_mem {m : Memory} (h : Memory.wf m) {c : Host.Cell} (hc : c ∈ m) :
    Memory.lookup m c.1 = some c.2 := by
  induction m with
  | nil => cases hc
  | cons d m ih =>
    obtain ⟨hd, hm⟩ := List.pairwise_cons.mp h
    obtain rfl | hc := List.mem_cons.mp hc
    · rw [Memory.lookup, if_pos rfl]
    · rw [Memory.lookup, if_neg (hd c hc).ne, ih hm hc]

theorem Memory.mem_of_lookup {m : Memory} {a : Nat} {b : Byte} (h : Memory.lookup m a = some b) : (a, b) ∈ m := by
  induction m with
  | nil => cases h
  | cons d m ih =>
    rw [Memory.lookup] at h
    split at h
    · next hd =>
      cases h
      exact hd ▸ List.mem_cons_self
    · exact List.mem_cons_of_mem _ (ih h)

/-- A canonical RAM that lists only bytes of the first `n` samples. -/
def Ram.Within (n : Nat) (r : Ram) : Prop :=
  Memory.wf r.cells ∧ ∀ c ∈ r.cells, ramStart ≤ c.1 ∧ c.1 < ramStart + 8 * n

/-- What lists the same bytes outside the first `n` samples, none, stays within them. -/
theorem Ram.Within.of_lookup {n : Nat} {r r' : Ram} (h : r.Within n) (hwf : Memory.wf r'.cells)
    (hout : ∀ a, a < ramStart ∨ ramStart + 8 * n ≤ a → Memory.lookup r'.cells a = Memory.lookup r.cells a) :
    r'.Within n := by
  obtain ⟨-, hin⟩ := h
  refine ⟨hwf, fun c hc => ?_⟩
  by_contra hc'
  have hlookup := Memory.lookup_of_mem hwf hc
  rw [hout c.1 (by omega)] at hlookup
  exact hc' (hin _ (Memory.mem_of_lookup hlookup))

theorem Ram.Within.writeWord {n w : Nat} {r : Ram} (h : r.Within n) (hw : w < 2 * n) (v : Word) :
    (r.writeWord w v).Within n := by
  refine h.of_lookup (Ram.writeWord_wf h.1 w v) fun a ha => ?_
  rw [Ram.lookup_writeWord, if_neg (by unfold ramOffset; omega)]

theorem Ram.Within.ramAfter {i : Instr} {ps : Params} {p : Pending} {r : Ram} (h : r.Within ps.nmax)
    (hlen : i.UsesLen → ps.LegalLength p.n.toNat) (hrev : i.RunsBitrev p.br → p.f.toNat * p.n.toNat = ps.nmax) :
    (ramAfter i ps p r).Within ps.nmax := by
  refine h.of_lookup (ramAfter_wf i ps p h.1) fun a ha => lookup_ramAfter_of_outside hlen hrev (fun hi => ?_) r
  have := (legalLength_bounds (hlen hi)).2
  omega

/-! The invariant. -/

/-- The clauses of the invariant about STATUS alone (10_state.md R43, 60_exceptions.md R251, R261). -/
def Status.Ok (st : Status) : Prop :=
  ¬(st.done = true ∧ st.err = true) ∧ (st.err = false ↔ st.errcode = 0) ∧ st.errcode.toNat ≤ 4

theorem State.Inv.status_ok {s : State} (h : s.Inv) : s.status.Ok := ⟨h.one_source, h.code_iff, h.code_le⟩

theorem State.Inv.ram_within {s : State} (h : s.Inv) : s.ram.Within s.params.nmax := ⟨h.canonical, h.in_ram⟩

/-- A block out of reset with nothing pending. -/
theorem inv_of_idle {s : State} (hidle : s.Idle) (hst : s.status.Ok) (hram : s.ram.Within s.params.nmax) : s.Inv := by
  obtain ⟨hr, hb, hp⟩ := hidle
  obtain ⟨hone, hcode, hle⟩ := hst
  exact {
    busy_iff := by rw [hb, hp]; rfl
    busy_clear := fun h => absurd (h.symm.trans hb) nofun
    one_source := hone
    code_iff := hcode
    code_le := hle
    captured := fun p h => absurd (h.symm.trans hp) nofun
    canonical := hram.1
    in_ram := hram.2
    held := fun h => absurd (h.symm.trans hr) nofun }

theorem inv_resetWith (p : Params) (era : Nat) (level : Bool) (es : List Event) (a : Option Response) :
    (State.resetWith p era level es a).Inv where
  busy_iff := rfl
  busy_clear := nofun
  one_source := fun h => nomatch h.1
  code_iff := ⟨fun _ => rfl, fun _ => rfl⟩
  code_le := Nat.zero_le _
  captured := nofun
  canonical := List.Pairwise.nil
  in_ram := nofun
  held := fun h => by
    obtain rfl : level = false := h
    rfl

/-- Settles O55. -/
theorem resetMeetsInvariant : Obligations.ResetMeetsInvariant := inv_resetWith ..

theorem State.Inv.withInputs {s : State} (h : s.Inv) (es : List Event) : (s.withInputs es).Inv where
  busy_iff := h.busy_iff
  busy_clear := h.busy_clear
  one_source := h.one_source
  code_iff := h.code_iff
  code_le := h.code_le
  captured := h.captured
  canonical := h.canonical
  in_ram := h.in_ram
  held := fun hr => congrArg (State.withInputs · es) (h.held hr)

theorem State.Inv.withResponse {s : State} (h : s.Inv) (a : Response) : (s.withResponse a).Inv where
  busy_iff := h.busy_iff
  busy_clear := h.busy_clear
  one_source := h.one_source
  code_iff := h.code_iff
  code_le := h.code_le
  captured := h.captured
  canonical := h.canonical
  in_ram := h.in_ram
  held := fun hr => congrArg (State.withResponse · a) (h.held hr)

theorem State.Inv.releaseReset {s : State} (h : s.Inv) : (releaseReset s).Inv where
  busy_iff := h.busy_iff
  busy_clear := h.busy_clear
  one_source := h.one_source
  code_iff := h.code_iff
  code_le := h.code_le
  captured := h.captured
  canonical := h.canonical
  in_ram := h.in_ram
  held := nofun

theorem State.Inv.pending_none {s : State} (h : s.Inv) (hb : s.status.busy = false) : s.pending = none :=
  Option.isSome_eq_false_iff.mp (h.busy_iff ▸ hb) |> Option.isNone_iff_eq_none.mp

theorem State.Inv.busy_of_pending {s : State} {p : Pending} (h : s.Inv) (hp : s.pending = some p) :
    s.status.busy = true := by
  rw [h.busy_iff, hp]
  rfl

/-- A pending record is legal for its command (43_dispatcher.md R231). -/
theorem State.Inv.legal {s : State} {p : Pending} (h : s.Inv) (hp : s.pending = some p) :
    (p.cmd.UsesLen → s.params.LegalLength p.n.toNat) ∧
      (p.cmd.RunsBitrev p.br → p.f.toNat * p.n.toNat = s.params.nmax) := by
  obtain ⟨hregs, hcheck, -⟩ := h.captured p hp
  obtain ⟨hlen, -, hrev⟩ := check_eq_none_iff.mp hcheck
  rw [hregs]
  exact ⟨hlen, hrev⟩

/-! The operations keep it. -/

theorem CmdError.code_ok (e : CmdError) (b : Bool) : Status.Ok ⟨b, false, true, e.code⟩ := by
  cases e <;> simp [Status.Ok, CmdError.code]

theorem State.Inv.reject {s : State} (h : s.Inv) (hr : s.rstN = true) (hb : s.status.busy = false) (e : CmdError) :
    (raiseCmdError e (clearOutcome s)).Inv :=
  inv_of_idle ⟨hr, hb, h.pending_none hb⟩ (e.code_ok _) h.ram_within

theorem State.Inv.accepted {s : State} {i : Instr} (h : s.Inv) (hr : s.rstN = true) (hc : check i s = none)
    (hw : i.wellFormed = true) : (acceptedState i s).Inv where
  busy_iff := rfl
  busy_clear := fun _ => ⟨rfl, rfl⟩
  one_source := fun hsrc => nomatch hsrc.1
  code_iff := ⟨fun _ => rfl, fun _ => rfl⟩
  code_le := Nat.zero_le _
  captured := by
    rintro p hp
    obtain rfl := Option.some.inj hp
    exact ⟨rfl, hc, hw⟩
  canonical := h.canonical
  in_ram := h.in_ram
  held := fun h => absurd (h.symm.trans hr) nofun

theorem State.Inv.presentWord {s u : State} {w : Word} (h : s.Inv) (hr : s.rstN = true) (hb : s.status.busy = false)
    (hu : presentWord w s = .next u) : u.Inv := by
  cases hw : decode w with
  | error e =>
    rw [Machine.presentWord, hw] at hu
    cases hu
    exact h.reject hr hb .illegalCmd
  | ok i =>
    rw [presentWord_of_ok hw] at hu
    obtain ⟨-, hc, rfl⟩ | ⟨-, e, rfl⟩ | ⟨p, hp, -⟩ := exec_next hu
    · exact h.accepted hr hc (wellFormed_of_decode hw)
    · exact h.reject hr hb e
    · exact absurd (hp.symm.trans (h.pending_none hb)) nofun

/-- The completion of a pending command clears its BUSY and keeps the error bits, which are clear. -/
theorem State.Inv.complete {s u : State} {p : Pending} (h : s.Inv) (hr : s.rstN = true) (hp : s.pending = some p)
    (hu : exec p.cmd s = .next u) : u.Inv := by
  obtain rfl := eq_of_exec_of_some hp hu
  obtain ⟨-, herr⟩ := h.busy_clear (h.busy_of_pending hp)
  obtain ⟨hlen, hrev⟩ := h.legal hp
  refine inv_of_idle ⟨hr, rfl, rfl⟩ ⟨fun hsrc => ?_, h.code_iff, h.code_le⟩ (h.ram_within.ramAfter hlen hrev)
  exact absurd (hsrc.2.symm.trans herr) nofun

theorem Status.Ok.clearWritten {s : State} (h : s.status.Ok) (v : Word) : (clearWritten v s).status.Ok := by
  obtain ⟨hone, hcode, hle⟩ := h
  rw [clearWritten_eq]
  unfold Status.Ok
  cases v.getLsbD 1 <;> cases v.getLsbD 2 <;> simp_all

/-- A write of STATUS or IRQEN keeps the invariant, BUSY or not: it clears bits at most. -/
theorem State.Inv.withFlags {s : State} (h : s.Inv) (hr : s.rstN = true) {st : Status} (e : IrqEn) (hst : st.Ok)
    (hb : st.busy = s.status.busy) (hclear : st.busy = true → st.done = false ∧ st.err = false) :
    { s with status := st, irqen := e }.Inv := by
  obtain ⟨hone, hcode, hle⟩ := hst
  exact {
    busy_iff := hb.trans h.busy_iff
    busy_clear := hclear
    one_source := hone
    code_iff := hcode
    code_le := hle
    captured := h.captured
    canonical := h.canonical
    in_ram := h.in_ram
    held := fun h => absurd (h.symm.trans hr) nofun }

theorem State.Inv.store {s x : State} {off : Nat} {l : Place} {v : Word} (h : s.Inv) (hr : s.rstN = true)
    (hm : admitted 4 off s = some l) (hx : storePlace l v s = some x) : x.Inv := by
  obtain ⟨-, -, hplace, hguard⟩ := admitted_eq_some.mp hm
  obtain ⟨hparams, hpend, hrst, hst, hram⟩ := storePlace_frame hx
  have hbusy := storePlace_busy hx
  have hok : x.status.Ok := by
    obtain hst | hst := hst
    · exact hst ▸ h.status_ok
    · exact hst ▸ h.status_ok.clearWritten v
  cases hl : l.guarded with
  | false =>
    obtain ⟨-, hframe⟩ := storePlace_of_not_guarded hl hx
    rw [hframe]
    refine h.withFlags hr _ hok hbusy fun hb => ?_
    obtain ⟨hdone, herr⟩ := h.busy_clear (hbusy.symm.trans hb)
    obtain hst | hst := hst <;> simp [hst, hdone, herr]
  | true =>
    have hb : s.status.busy = false := by simpa [hl] using hguard
    refine inv_of_idle ⟨hrst.trans hr, hbusy.trans hb, hpend.trans (h.pending_none hb)⟩ hok ?_
    rw [hparams]
    obtain hram | ⟨w, rfl, hram⟩ := hram
    · exact hram ▸ h.ram_within
    · obtain ⟨hlow, hhigh, rfl⟩ := placeAt_eq_some.mp hplace
      exact hram ▸ h.ram_within.writeWord (by omega) v

theorem State.Inv.hostAccess {s u : State} {t : Txn} (h : s.Inv) (hr : s.rstN = true) (hu : hostAccess t s = .next u) :
    u.Inv := by
  obtain ⟨a, rfl⟩ | ⟨v, -, hb, hpresent⟩ | ⟨off, v, l, x, -, hm, hx, rfl⟩ := hostAccess_cases hu
  · exact h.withResponse a
  · exact (h.withResponse .written).presentWord hr hb hpresent
  · exact (h.store hr hm hx).withResponse .written

/-- Settles O56: by what a step can be, each operation keeping the invariant. -/
theorem stepKeepsInvariant : Obligations.StepKeepsInvariant := by
  intro s t h hstep
  obtain ⟨txn, rest, -, hr, haccess⟩ | ⟨rest, -, ⟨p, hp, hr, hexec⟩ | ⟨-, rfl⟩⟩ | ⟨level, rest, -, rfl⟩ := step_next hstep
  · exact (h.withInputs rest).hostAccess hr haccess
  · exact (h.withInputs rest).complete hr hp hexec
  · exact h.withInputs rest
  · cases level with
    | false => exact inv_resetWith ..
    | true => exact (h.withInputs rest).releaseReset

end Sys2Proof.Machine

/-! Memory, the completion of an accepted command, and the round trip of length 4 (20_memory.md R86, 43_dispatcher.md R232,
R236, 70_reset_and_hazards.md R303). -/

namespace Sys2Proof.Machine

/-! What changes a byte of memory. -/

theorem presentWord_ram {w : Word} {s u : State} (hp : s.pending = none) (h : presentWord w s = .next u) :
    u.ram = s.ram := by
  obtain ⟨e, -, hu⟩ | ⟨i, -, hu⟩ := presentWord_of_none (w := w) hp
  · obtain rfl := Host.Outcome.next.inj (hu.symm.trans h)
    rfl
  · obtain rfl := Host.Outcome.next.inj (hu.symm.trans h)
    obtain ⟨-, haccept⟩ | ⟨e, -, haccept⟩ := accept_cases i s <;> rw [haccept] <;> rfl

/-- A host access changes a byte only by a write to the RAM word that holds it, with BUSY = 0. -/
theorem exists_ramWrite_of_hostAccess {s u : State} {t : Txn} {a : Nat} (h : s.Inv) (hu : hostAccess t s = .next u)
    (hne : u.ram.readByte a ≠ s.ram.readByte a) : ∃ (w : Nat) (v : Word), s.status.busy = false ∧
      .host t = hostWrite s.params (0x8000 + 4 * w) v ∧ 0x8000 + 4 * w ≤ a ∧ a < 0x8000 + 4 * w + 4 := by
  obtain ⟨r, rfl⟩ | ⟨v, -, hb, hpresent⟩ | ⟨off, v, l, x, htxn, hm, hx, rfl⟩ := hostAccess_cases hu
  · exact absurd rfl hne
  · rw [presentWord_ram (s := s.withResponse .written) (h.pending_none hb) hpresent] at hne
    exact absurd rfl hne
  obtain ⟨-, halign, hplace, hguard⟩ := admitted_eq_some.mp hm
  obtain ⟨-, -, -, -, hram | ⟨w, rfl, hram⟩⟩ := storePlace_frame hx
  · exact absurd (congrArg (Ram.readByte · a) hram) hne
  obtain ⟨hlow, -, hw⟩ := placeAt_eq_some.mp hplace
  have hoff : off = 0x8000 + 4 * w := by omega
  refine ⟨w, v, by simpa [Place.guarded] using hguard, hoff ▸ htxn, ?_⟩
  by_contra hout
  refine hne ((congrArg (Ram.readByte · a) hram).trans (Ram.readByte_writeWord_of_outside ?_))
  unfold ramOffset ramStart
  omega

/-- Settles O59: by what a step can be; outside its buffer a completion lists no byte. -/
theorem memoryChangesOnlyByTheseEvents : Obligations.MemoryChangesOnlyByTheseEvents := by
  intro s t a h hstep hne
  obtain ⟨txn, rest, hi, -, haccess⟩ | ⟨rest, -, ⟨p, hp, -, hexec⟩ | ⟨-, rfl⟩⟩ | ⟨level, rest, hi, rfl⟩ := step_next hstep
  · obtain ⟨w, v, hb, htxn, hin⟩ := exists_ramWrite_of_hostAccess (h.withInputs rest) haccess hne
    exact .inl ⟨w, v, rest, hb, htxn ▸ hi, hin⟩
  · obtain rfl := eq_of_exec_of_some (s := s.withInputs rest) hp hexec
    obtain ⟨hlen, hrev⟩ := h.legal hp
    by_contra hout
    simp only [not_or] at hout
    obtain ⟨-, -, hout⟩ := hout
    refine hne (Ram.readByte_eq_of_lookup (ramAfter_era ..) (lookup_ramAfter_of_outside hlen hrev (fun hi => ?_) _))
    by_contra hin
    unfold ramStart at hin
    exact hout ⟨p, hp, hi, rfl, by omega, by omega⟩
  · exact absurd rfl hne
  · cases level with
    | false => exact .inr (.inl ⟨rest, hi⟩)
    | true => exact absurd rfl hne

/-! The completion, however many host transactions come first. -/

/-- `t` is what completing the record `p` from the present state `s` leaves, as far as RAM, ACC, RES, the flags of
completion, the descriptor and the operands go. -/
def CompletedFrom (s : State) (p : Pending) (t : State) : Prop :=
  t.pending = none ∧ t.status.busy = false ∧ t.status.done = true ∧
    t.ram = ramAfter p.cmd s.params p s.ram ∧ t.acc = accAfter p.cmd s.acc s.opa s.opb ∧
    t.res = resAfter p.cmd s.acc s.res ∧
    t.len = s.len ∧ t.twmod = s.twmod ∧ t.brfact = s.brfact ∧ t.ctrl = s.ctrl ∧ t.opa = s.opa ∧ t.opb = s.opb

/-- The sequencer's turn, wherever it comes from, completes the pending command. -/
theorem exists_run_one_of_sequencerTurn {s : State} {p : Pending} {rest : List Event} (hr : s.rstN = true)
    (hp : s.pending = some p) (h : step s = sequencerTurn (s.withInputs rest)) :
    ∃ t, Host.Core.run Sys2Proof.core 1 s = .next t ∧ CompletedFrom s p t := by
  rw [sequencerTurn_of_some (s := s.withInputs rest) hr hp, exec_of_some (s := s.withInputs rest) hp] at h
  exact ⟨_, run_succ h 0, rfl, rfl, rfl, rfl, rfl, rfl, rfl, rfl, rfl, rfl, rfl, rfl⟩

/-- By induction on the queue: while BUSY = 1 a host transaction changes nothing the completion reads or must keep. -/
theorem exists_run_completedFrom {p : Pending} (es : List Event) : ∀ s : State, s.inputs = es → s.rstN = true →
    s.status.busy = true → s.pending = some p →
    (∀ e ∈ es, e = .sequencer ∨
      ∃ t : Txn, e = .host t ∧ s.params.base ≤ t.addr ∧ t.addr < s.params.base + 0x20000) →
    ∃ k t, k ≤ es.length + 1 ∧ Host.Core.run Sys2Proof.core k s = .next t ∧ CompletedFrom s p t := by
  induction es with
  | nil =>
    intro s hi hr _ hp _
    have hstep : step s = sequencerTurn (s.withInputs []) := by rw [step_emptyQueue hi, State.withInputs_self hi]
    obtain ⟨t, hrun, hdone⟩ := exists_run_one_of_sequencerTurn hr hp hstep
    exact ⟨1, t, le_rfl, hrun, hdone⟩
  | cons e rest ih =>
    intro s hi hr hb hp hes
    obtain ⟨he, hrest⟩ := List.forall_mem_cons.mp hes
    obtain rfl | ⟨txn, rfl, hlow, hhigh⟩ := he
    · obtain ⟨t, hrun, hdone⟩ := exists_run_one_of_sequencerTurn hr hp (step_sequencer hi)
      exact ⟨1, t, by omega, hrun, hdone⟩
    · obtain ⟨u, hu⟩ := exists_hostAccess_next_of_inside (s := s.withInputs rest) hlow hhigh
      have hstep := (step_host hr hi).trans hu
      obtain ⟨hbu, hframe⟩ := hostAccess_of_busy (s := s.withInputs rest) hb hu
      generalize u.response = a, u.status = st, u.irqen = en at hbu hframe
      subst hframe
      obtain ⟨k, t, hk, hrun, hdone⟩ :=
        ih { s.withInputs rest with response := a, status := st, irqen := en } rfl hr hbu hp hrest
      exact ⟨k + 1, t, by simpa using hk, (run_succ hstep k).trans hrun, hdone⟩

/-- Settles O60: the run of the queue up to the sequencer's turn, against the completion at once. -/
theorem acceptedCommandEventuallyCompletes : Obligations.AcceptedCommandEventuallyCompletes := by
  intro s p h hr hp hes
  obtain ⟨k, t, hk, hrun, hpend, hbusy, hdone, hram, hacc, hres, hkeep⟩ :=
    exists_run_completedFrom s.inputs s rfl hr (h.busy_of_pending hp) hp hes
  exact ⟨k, t, _, hk, hrun, hpend, hbusy, hdone, exec_of_some hp, hram, hacc, hres, hkeep⟩

/-! The round trip of length 4. -/

/-- A command that passes its checks, presented and then completed: two steps of the machine. -/
theorem run_command {s : State} {w : Word} {i : Instr} {rest : List Event} (hidle : s.Idle) (hw : decode w = .ok i)
    (hcheck : check i s = none) (hi : s.inputs = hostWrite s.params 0x018 w :: .sequencer :: rest) (k : Nat) :
    Host.Core.run Sys2Proof.core (k + 2) s = Host.Core.run Sys2Proof.core k { s with
      status := ⟨false, true, false, 0⟩
      acc := accAfter i s.acc s.opa s.opb
      res := resAfter i s.acc s.res
      ram := ramAfter i s.params (pendingOf i s) s.ram
      pending := none
      inputs := rest
      response := some .written } := by
  obtain ⟨hr, hb, hp⟩ := hidle
  obtain ⟨a, ha⟩ : ∃ a, a = acceptedState i { s with
      inputs := .sequencer :: rest
      response := some .written } := ⟨_, rfl⟩
  have hpresent : step s = .next a := by
    rw [step_cmdWrite hr hb hi, presentWord_of_ok hw, ha]
    exact exec_of_check_none hp hcheck
  have hra : a.rstN = true := by rw [ha]; exact hr
  have hpa : a.pending = some (pendingOf i s) := by rw [ha]; rfl
  have hia : a.inputs = .sequencer :: rest := by rw [ha]; rfl
  have hcomplete := (step_sequencer hia).trans (sequencerTurn_of_some (s := a.withInputs rest) hra hpa)
  rw [exec_of_some (s := a.withInputs rest) hpa] at hcomplete
  rw [run_succ hpresent, run_succ hcomplete, ha]
  rfl

/-- What XFORM of length 4 with bit reversal leaves of an idle block, two events later. -/
def afterXformFour (s : State) (rest : List Event) : State :=
  { s with
    status := ⟨false, true, false, 0⟩
    ram := runReversal s.params 4 s.brfact.toNat
      (runPass s.params (if s.ctrl.inv then .inv else .fwd) 4 s.twmod.toNat s.ram)
    pending := none
    inputs := rest
    response := some .written }

theorem run_xform_four {s : State} {rest : List Event} (hidle : s.Idle) (hbr : s.ctrl.bitrev = true) (hlen : s.len = 4)
    (hm : s.twmod.toNat * 4 = s.params.nmax) (hf : s.brfact.toNat * 4 = s.params.nmax)
    (hi : s.inputs = hostWrite s.params 0x018 1 :: .sequencer :: rest) (k : Nat) :
    Host.Core.run Sys2Proof.core (k + 2) s = Host.Core.run Sys2Proof.core k (afterXformFour s rest) := by
  have hlen' : s.len.toNat = 4 := by rw [hlen]; rfl
  have hlegal : s.params.LegalLength s.len.toNat := ⟨1, le_rfl, (Params.log4Nmax_le _).1, hlen'⟩
  have hcheck : check .xform s = none :=
    check_eq_none_iff.mpr ⟨fun _ => hlegal, fun _ => hlen' ▸ hm, fun _ => hlen' ▸ hf⟩
  have hram : ramAfter .xform s.params (pendingOf .xform s) s.ram = (afterXformFour s rest).ram := by
    simp only [ramAfter, pendingOf, Pending.dir, hbr, hlen', if_true, afterXformFour]
  obtain ⟨-, hxform, -⟩ := decodeReadsSampleWords
  rw [run_command hidle hxform hcheck hi, hram]
  rfl

/-- The two transforms of the round trip multiply every word by 4. -/
theorem readWord_roundTrip_four {p : Params} {f : Nat} (hf : f * 4 = p.nmax) (m : Nat) {r r₁ r₂ : Ram}
    (h₁ : r₁ = runReversal p 4 f (runPass p .fwd 4 m r)) (h₂ : r₂ = runReversal p 4 f (runPass p .inv 4 m r₁)) :
    ∀ w < 8, r₂.readWord w = 4 * r.readWord w := by
  have hquad := combine_inv_combine_fwd _ _ _ _ (quad_xform_four hf .fwd m r r₁ h₁)
  rw [← quad_xform_four hf .inv m r₁ r₂ h₂, Quad.mk.injEq] at hquad
  obtain ⟨hx₀, hx₂, hx₁, hx₃⟩ := hquad
  intro w hw
  have hsample : r₂.sample (w / 2) = ⟨4 * (r.sample (w / 2)).re, 4 * (r.sample (w / 2)).im⟩ := by
    have hi : w / 2 < 4 := by omega
    generalize w / 2 = i at hi
    interval_cases i
    exacts [hx₀, hx₁, hx₂, hx₃]
  simp only [Ram.sample, Cplx.mk.injEq] at hsample
  obtain ⟨hre, him⟩ := hsample
  obtain hw | hw : w = 2 * (w / 2) ∨ w = 2 * (w / 2) + 1 := by omega
  · rw [hw, hre]
  · rw [hw, him]

theorem step_ctrlWrite_three {s : State} {rest : List Event} (hr : s.rstN = true) (hb : s.status.busy = false)
    (hi : s.inputs = hostWrite s.params 0x008 3 :: rest) :
    step s = .next { s with ctrl := ⟨true, true⟩, inputs := rest, response := some .written } :=
  step_writeReg (r := .ctrl) hr (.inl hb) hi

/-- Settles O41: two steps forward, the CTRL write, two steps inverse. -/
theorem fourPointRoundTrip : Obligations.FourPointRoundTrip := by
  intro s hidle hctrl hlen hm hf hi
  have hr : s.rstN = true := hidle.1
  have hfwd := run_xform_four hidle (by rw [hctrl]) hlen hm hf hi 3
  have hwrite := step_ctrlWrite_three
    (s := afterXformFour s [hostWrite s.params 0x008 3, hostWrite s.params 0x018 1, .sequencer]) hr rfl rfl
  have hinv := run_xform_four (s := { afterXformFour s [] with
    ctrl := ⟨true, true⟩
    inputs := [hostWrite s.params 0x018 1, .sequencer]
    response := some .written }) ⟨hr, rfl, rfl⟩ rfl hlen hm hf rfl 0
  have hram : (afterXformFour s []).ram = runReversal s.params 4 s.brfact.toNat
      (runPass s.params .fwd 4 s.twmod.toNat s.ram) := by
    simp only [afterXformFour, hctrl, Bool.false_eq_true, if_false]
  exact ⟨_, hfwd.trans ((run_succ hwrite 2).trans hinv), rfl, rfl, readWord_roundTrip_four hf s.twmod.toNat hram rfl⟩

end Sys2Proof.Machine
